-- ==== Sys2Proof/Word.lean ====
section
/-!
DEFINITION. The word types of the block and their plainest arithmetic (00_scope.md R9: bit 0 is the least
significant bit of a register, all register values are unsigned bit vectors).
-/

namespace Sys2Proof

/-- A register word, the unit of every transaction (20_memory.md R142). -/
abbrev Word := BitVec 32

/-- A 64-bit register (10_state.md R48). -/
abbrev Dword := BitVec 64

/-- A byte of the model's transaction frame. -/
abbrev Byte := BitVec 8

/-- The index of a breakpoint or watchpoint (10_state.md R48: n = 0 to 63). -/
abbrev Index := BitVec 6

end Sys2Proof
end

