-- ==== Sys2Proof/Config.lean ====
section
/-!
DEFINITION. What one implementation of the block fixes (00_scope.md R6, R7), the constraints between those
parameters (R8), and the free values: constants without a body that stand for every value the source leaves open
(R13; notes/assumptions/9.md).
-/

namespace Sys2Proof

/-- The power domain of a register whose domain is IMPLEMENTATION DEFINED (R7: EDACR_domain, EDITCTRL_domain). -/
inductive PowerDomain where
  | core
  | debug
deriving DecidableEq, Repr

/-- The extent of a Warm reset request (R7 CWRR_extent, 46_ed_power_reset.md R623). -/
inductive CwrrExtent where
  | ignored
  | thisPE
  | thisAndOthers
deriving DecidableEq, Repr

/-- R6, the architecture features the debug registers themselves depend on. -/
structure DebugFeatures where
  aa32 : Bool
  aa64 : Bool
  able : Bool
  bwe : Bool
  bwe2 : Bool
  debugv8p1 : Bool
  debugv8p2 : Bool
  debugv8p4 : Bool
  debugv8p8 : Bool
  debugv8p9 : Bool
  doPD : Bool
  doubleLock : Bool
  edhsr : Bool
  gcs : Bool
  lva : Bool
  lva3 : Bool
deriving DecidableEq, Repr

/-- R6, the other features that fields of the block depend on. -/
structure SystemFeatures where
  pcsrv8 : Bool
  pcsrv8p2 : Bool
  pmuv3 : Bool
  pmuv3Ext : Bool
  pmuv3p9 : Bool
  rme : Bool
  sel2 : Bool
  secureFeat : Bool
  trbe : Bool
  trbeExt : Bool
  trcExt : Bool
  trf : Bool
  etev1p3 : Bool
  vmid16 : Bool
  sve : Bool
  sme : Bool
  nv2 : Bool
  mops : Bool
  e3dse : Bool
  doubleFault2 : Bool
deriving DecidableEq, Repr

/-- R6, the features that only the identification fields report. -/
structure IdFeatures where
  amuv1 : Bool
  amuv1p1 : Bool
  fp16 : Bool
  ete : Bool
  etmv4 : Bool
  pmuv3p1 : Bool
  pmuv3p4 : Bool
  pmuv3p5 : Bool
  pmuv3p7 : Bool
  pmuv3p8 : Bool
  trbev1p1 : Bool
deriving DecidableEq, Repr

/-- R7, the Exception levels, Security states and resources the PE implements. -/
structure PeParams where
  haveEL2 : Bool
  haveEL3 : Bool
  secureImpl : Bool
  nonSecureImpl : Bool
  aa32AtEL0 : Bool
  aa32AtEL1 : Bool
  numBrp : Nat
  numWrp : Nat
  numCtxCmp : Nat
  numAblCmp : Nat
  /-- MDSELR_EL1 is RAZ/WI (10_state.md R96, EHBWE) -/
  mdselrRazWi : Bool
  /-- the DC ZVA block size is 2 to this power, in bytes (47 R760; the model's own name, notes/assumptions/44.md) -/
  dcZvaLog2 : Nat
  /-- the smallest implemented translation granule is 2 to this power, in bytes (44 R515; the model's own name,
  notes/assumptions/44.md) -/
  minGranuleLog2 : Nat
deriving DecidableEq, Repr

/-- R7, which optional registers and controls are present, and where. -/
structure PresenceParams where
  softwareLock : Bool
  edacr : Bool
  edacrDomain : PowerDomain
  /-- the control bits of EDACR that must be preserved over power down (42 R360; the model's own name,
  notes/assumptions/56.md) -/
  edacrPreserved : Word
  editctrl : Bool
  editctrlDomain : PowerDomain
  coreSightID : Bool
  cbrrq : Bool
  ehbwe : Bool
  /-- EDVIDSR without EL2 and EL3 (10_state.md R97, 42_ed_id_aux.md R403) -/
  edvidsr : Bool
deriving DecidableEq, Repr

/-- R7, the IMPLEMENTATION DEFINED behaviours. -/
structure ChoiceParams where
  ressWritable : Bool
  res0Storage : Bool
  /-- reserved_offset_response: `true` is ERROR_or_RES0, `false` is RES0 (30_encoding.md R190) -/
  reservedMayError : Bool
  cwrrExtent : CwrrExtent
  corenpdrqReset : Bool
  corenpdrqRetentionReset : Bool
  /-- DLK_view is PU0_DLKunk (46_ed_power_reset.md R653, R659) -/
  dlkViewPU0 : Bool
  /-- SPD_in_retention; `none` is UNKNOWN (46_ed_power_reset.md R658) -/
  spdInRetention : Option Bool
  /-- leaving a retention state sets SPD (93_implementation_defined.md U16; the model's own name, notes/assumptions/15.md) -/
  spdSetByRetention : Bool
  /-- OSLAR_error_when_disallowed (47_ed_status_control.md R771) -/
  oslarErrorWhenDisallowed : Bool
  /-- DTR_access_when_ERR: `true` is as_written, `false` is no_side_effects (41 R305) -/
  dtrErrAsWritten : Bool
  intdisTwoBit : Bool
  resetCatchOnResetEntry : Bool
  oslkColdReset : Bool
  /-- the value of IsCorePowered() in the retention state (60_exceptions.md R830 gives none) -/
  retentionPowered : Bool
deriving DecidableEq, Repr

/-- R7 "ID field values": EDDEVAFF, EDPIDR, MIDR_EL1, EDAA32PFR, EDPFR. -/
structure IdentParams where
  midr : Word
  /-- ID_AA64MMFR0_EL1: one of the constants of 10_state.md R42, which no register of this block copies
  (notes/assumptions/53.md) -/
  mmfr0 : Dword
  /-- EDDEVAFF0.{U, MT, Aff2, Aff1, Aff0} and EDDEVAFF1.Aff3 (42_ed_id_aux.md R383, R386) -/
  affU : Bool
  affMT : Bool
  aff3 : BitVec 8
  aff2 : BitVec 8
  aff1 : BitVec 8
  aff0 : BitVec 8
  partNumber : BitVec 12
  designer : BitVec 7
  designerCont : BitVec 4
  revision : BitVec 4
  revand : BitVec 4
  cmod : BitVec 4
deriving DecidableEq, Repr

/-- R7 "ID field values": the Processor Feature fields (42_ed_id_aux.md R352 to R356, 45 R578 to R584). -/
structure PfrParams where
  aa32MsaFrac : BitVec 4
  aa32EL3 : BitVec 4
  aa32EL2 : BitVec 4
  aa32PMSA : BitVec 4
  aa32VMSA : BitVec 4
  amu : BitVec 4
  gic : BitVec 4
  advSIMD : BitVec 4
  fp : BitVec 4
  el3 : BitVec 4
  el2 : BitVec 4
  el1 : BitVec 4
  el0 : BitVec 4
deriving DecidableEq, Repr

/-- R7 "ID field values": the Debug Feature fields that no other parameter gives (43_ed_feature.md). -/
structure DfrParams where
  pmuVer : BitVec 4
  traceVer : BitVec 4
  traceBuffer : BitVec 4
  sebep : BitVec 4
  pmss : BitVec 4
  /-- EDDFR1.{BRPs, WRPs, CTX_CMPs} hold the count although it is below 16 (R450 permits 0x00 or the count) -/
  dfr1Brps : Bool
  dfr1Wrps : Bool
  dfr1CtxCmps : Bool
  dpfzs : BitVec 4
  ebep : BitVec 4
  ite : BitVec 4
  pmicntr : BitVec 4
  spmu : BitVec 4
  syspmuid : BitVec 8
  trbeExc : BitVec 4
  speNVM : BitVec 4
  speExc : BitVec 4
  step : BitVec 4
  /-- EDDFR2.BWE shows FEAT_BWE (R458 permits 0b0000 as well) -/
  bweShown : Bool
deriving DecidableEq, Repr

/-- Every parameter of R6 and R7: fixed for a run. -/
structure Config where
  dbg : DebugFeatures
  sys : SystemFeatures
  idf : IdFeatures
  pe : PeParams
  has : PresenceParams
  opt : ChoiceParams
  ident : IdentParams
  pfr : PfrParams
  dfr : DfrParams
deriving DecidableEq, Repr

namespace Config

/-- R7: HaveSecureEL1 and HaveSecureEL0. -/
def haveSecureEL1 (c : Config) : Bool := c.pe.secureImpl

/-- R7: HaveNonSecureEL1 and HaveNonSecureEL0. -/
def haveNonSecureEL1 (c : Config) : Bool := c.pe.nonSecureImpl

/-- R7: HaveNonSecureEL2. -/
def haveNonSecureEL2 (c : Config) : Bool := c.pe.nonSecureImpl && c.pe.haveEL2

/-- The PC Sample-based Profiling Extension is in this block (10_state.md R66, R85). -/
def hasPcsr (c : Config) : Bool := c.sys.pcsrv8 && !c.sys.pcsrv8p2

/-- EDVIDSR is present (10_state.md R97; without EL2 and EL3 it is IMPLEMENTATION DEFINED, 90_conflicts.md C8;
DEDUCED, notes/assumptions/35.md). -/
def hasVidsr (c : Config) : Bool := c.hasPcsr && (c.pe.haveEL2 || c.pe.haveEL3 || c.has.edvidsr)

/-- EDSCR2 is present (10_state.md R96). -/
def hasScr2 (c : Config) : Bool := c.dbg.debugv8p9 || c.sys.trbeExt

/-- The Software Lock is implemented; never with FEAT_DoPD (R8). -/
def hasSoftwareLock (c : Config) : Bool := c.has.softwareLock && !c.dbg.doPD

/-- EDSCR.SC2 is a field (10_state.md R95). -/
def hasSC2 (c : Config) : Bool :=
  c.sys.pcsrv8 && c.pe.haveEL2 && c.dbg.debugv8p1 && !c.sys.pcsrv8p2

/-- EDSCR2.EHBWE is a field (10_state.md R96). -/
def hasEHBWE (c : Config) : Bool :=
  c.dbg.debugv8p9 &&
    (decide (16 < c.pe.numBrp) || decide (16 < c.pe.numWrp) || !c.pe.mdselrRazWi || c.has.ehbwe)

/-- EDSCR2.TTA is a field (10_state.md R96). -/
def hasTTA (c : Config) : Bool := c.sys.trbeExt || c.sys.etev1p3

/-- Breakpoint n is implemented (10_state.md R48). -/
def hasBreakpoint (c : Config) (n : Index) : Bool := decide (n.toNat < c.pe.numBrp)

/-- Watchpoint n is implemented (10_state.md R48). -/
def hasWatchpoint (c : Config) (n : Index) : Bool := decide (n.toNat < c.pe.numWrp)

/-- Breakpoint n is context-aware: the highest numbered NUM_CTX_CMP breakpoints (40_dbg_auth_breakpoint.md R240;
DESIGN CHOICE of the spec's D38, notes/assumptions/34.md). -/
def contextAware (c : Config) (n : Index) : Bool :=
  decide (c.pe.numBrp - c.pe.numCtxCmp ≤ n.toNat) && c.hasBreakpoint n

/-- Breakpoint n supports address breakpoint linking: the lowest numbered NUM_ABL_CMP (40 R236, D38). -/
def hasBT2 (c : Config) (n : Index) : Bool := c.dbg.able && decide (n.toNat < c.pe.numAblCmp)

/-- The number of the top address bit held in the value registers (R11). -/
def vaTop (c : Config) : Nat := if c.dbg.lva3 then 56 else if c.dbg.lva then 52 else 48

/-- The constraints the source states between parameters (R8; 43_ed_feature.md R447 for EDDFR1.CTX_CMPs; FEAT_Secure is
SecureImpl). No meaning depends on them; a statement may take them as a premise. -/
def wf (c : Config) : Bool :=
  (!(c.dbg.doPD && c.has.softwareLock)) &&
  (c.pe.secureImpl || c.pe.nonSecureImpl) &&
  decide (c.pe.numCtxCmp ≤ c.pe.numBrp) && decide (1 ≤ c.pe.numCtxCmp) &&
  decide (2 ≤ c.pe.numBrp) && decide (c.pe.numBrp ≤ 64) &&
  decide (2 ≤ c.pe.numWrp) && decide (c.pe.numWrp ≤ 64) &&
  (c.dbg.debugv8p9 || (decide (c.pe.numBrp ≤ 16) && decide (c.pe.numWrp ≤ 16))) &&
  (!c.pe.aa32AtEL1 || (decide (c.pe.numBrp ≤ 16) && decide (c.pe.numWrp ≤ 16))) &&
  (if c.dbg.able
    then decide (1 ≤ c.pe.numAblCmp) && decide (c.pe.numAblCmp ≤ c.pe.numBrp) &&
      decide (c.pe.numAblCmp ≤ c.pe.numWrp)
    else decide (c.pe.numAblCmp = 0)) &&
  (!c.dbg.edhsr || c.dbg.debugv8p2) && (!c.dbg.debugv8p9 || c.dbg.edhsr) &&
  (!c.dbg.able || c.dbg.bwe) && (!c.dbg.bwe2 || c.dbg.bwe) &&
  (!c.sys.trbeExt || c.sys.trbe) &&
  decide (c.pfr.fp = c.pfr.advSIMD) &&
  (decide (c.pfr.aa32EL3 = 0) || decide (c.pfr.el3 = 0)) &&
  (decide (c.pfr.aa32EL2 = 0) || decide (c.pfr.el2 = 0)) &&
  (!c.dbg.doPD || (decide (c.has.edacrDomain = .core))) &&
  (c.sys.secureFeat == c.pe.secureImpl) &&
  (!c.dfr.dfr1CtxCmps || decide (c.pe.numCtxCmp ≤ 1) || c.dfr.dfr1Brps || (c.dbg.debugv8p9 && decide (16 ≤ c.pe.numBrp)))

/-- EDDFR.PMUVer by the highest implemented version of FEAT_PMUv3 (43_ed_feature.md R438). -/
def pmuVersion (c : Config) : BitVec 4 :=
  if c.sys.pmuv3p9 then 0b1001
  else if c.idf.pmuv3p8 then 0b1000
  else if c.idf.pmuv3p7 then 0b0111
  else if c.idf.pmuv3p5 then 0b0110
  else if c.idf.pmuv3p4 then 0b0101
  else if c.idf.pmuv3p1 then 0b0100
  else 0b0001

/-- Each version of FEAT_PMUv3 is "as" the one before it "and adds" (43_ed_feature.md R438), so it implies that one. -/
def pmuVersionsNested (c : Config) : Bool :=
  (!c.sys.pmuv3p9 || c.idf.pmuv3p8) && (!c.idf.pmuv3p8 || c.idf.pmuv3p7) && (!c.idf.pmuv3p7 || c.idf.pmuv3p5) &&
    (!c.idf.pmuv3p5 || c.idf.pmuv3p4) && (!c.idf.pmuv3p4 || c.idf.pmuv3p1) && (!c.idf.pmuv3p1 || c.sys.pmuv3)

/-- From which version of the architecture on which value of EDDFR.PMUVer is not permitted with FEAT_PMUv3 (43_ed_feature.md
R438): 0b0001 from Armv8.1, 0b0100 from Armv8.4, up to 0b0111 from Armv8.8, 0b1000 from Armv8.9. "From Armv8.x" is read as
FEAT_Debugv8px (DEDUCED, notes/assumptions/43.md). -/
def pmuVersionPermitted (c : Config) : Bool :=
  !c.sys.pmuv3 ||
    ((!c.dbg.debugv8p1 || c.idf.pmuv3p1) && (!c.dbg.debugv8p4 || c.idf.pmuv3p4) && (!c.dbg.debugv8p8 || c.idf.pmuv3p8) &&
      (!c.dbg.debugv8p9 || c.sys.pmuv3p9))

/-- The values of EDPFR.AMU that a version of the architecture permits (45 R578): in Armv8.0 0b0000, in Armv8.4 not 0b0010,
which is so before it too. "Armv8.0" is read as FEAT_Debugv8p1 not being implemented, "Armv8.4" as FEAT_Debugv8p4 (DEDUCED,
notes/assumptions/43.md). -/
def amuVersionPermitted (c : Config) : Bool :=
  (c.dbg.debugv8p1 || decide (c.pfr.amu = 0)) && (c.dbg.debugv8p4 || decide (c.pfr.amu ≠ 2))

/-- The ties the source states between the identification fields and the features (42 R352 to R356, 43 R433, R434, R438,
R439, 45 R578 to R585, 47 R767). No meaning depends on them; they say which values of the ID parameters an implementation
may have. EDDEVARCH reports Armv8-A, where PMSA and VMSA are 0 (R355, R356). "EL3 can use AArch64" is read as "EDAA32PFR.EL3
is 0" and "from Armv8.4" as FEAT_Debugv8p4. No parameter tells Armv9, or Armv9.6, from an earlier version, so that
EDDFR.TraceBuffer may be 0b0001 on every implementation with FEAT_TRBE_EXT (DEDUCED, notes/assumptions/43.md). Of an Arm
part whose PartNum begins with 0x0 or 0x7 the source says that variant and architecture are encoded differently, and not how
(R767): any value of Architecture is admitted there (DESIGN CHOICE, notes/assumptions/43.md). Which codes of Implementer Arm
has assigned beside the listed ones is not in the source (R767): any value of it is admitted (DESIGN CHOICE,
notes/assumptions/43.md). -/
def idWf (c : Config) : Bool :=
  let p := c.pfr
  decide (p.amu = if c.idf.amuv1p1 then 2 else if c.idf.amuv1 then 1 else 0) && c.amuVersionPermitted &&
  (decide (p.gic = 0) || decide (p.gic = 1) || decide (p.gic = 3)) &&
  (if c.idf.fp16 then decide (p.fp = 1) else decide (p.fp = 0) || decide (p.fp = 15)) &&
  decide (p.el3 ≤ 2) && decide (p.el2 ≤ 2) && decide (p.el1 ≤ 2) && decide (p.el0 ≤ 2) &&
  (c.pe.haveEL3 == (p.el3 != 0 || p.aa32EL3 != 0)) && (c.pe.haveEL2 == (p.el2 != 0 || p.aa32EL2 != 0)) &&
  (c.dbg.aa32 || !(decide (p.el3 = 2) || decide (p.el2 = 2) || decide (p.el1 = 2) || decide (p.el0 = 2) ||
    decide (p.el1 = 0) || decide (p.el0 = 0))) &&
  (c.dbg.aa64 || decide (p.el0 = 0)) &&
  decide (p.aa32EL3 ≤ 1) && decide (p.aa32EL2 ≤ 1) &&
  decide (p.aa32PMSA = 0) && decide (p.aa32VMSA = 0) &&
  (!c.idf.trbev1p1 || c.sys.trbe) &&
  (!c.sys.trbeExt || decide (c.dfr.traceBuffer = if c.idf.trbev1p1 then 2 else 1)) &&
  (c.sys.trf || !(c.idf.ete || (c.idf.etmv4 && c.dbg.debugv8p4))) && decide (c.dfr.traceVer ≤ 1) &&
  (if c.sys.pmuv3 then decide (c.dfr.pmuVer = c.pmuVersion) else decide (c.dfr.pmuVer = 0) || decide (c.dfr.pmuVer = 15)) &&
  c.pmuVersionsNested && c.pmuVersionPermitted &&
  ((decide (c.ident.midr.extractLsb' 24 8 = 0x41) &&
      (decide (c.ident.midr.extractLsb' 12 4 = 0) || decide (c.ident.midr.extractLsb' 12 4 = 7))) ||
    decide (c.ident.midr.extractLsb' 16 4 = 15) ||
    (decide (1 ≤ c.ident.midr.extractLsb' 16 4) && decide (c.ident.midr.extractLsb' 16 4 ≤ 7)))

end Config

/-! ## Free values -/

/-- The controls of which the PE may see a write by the debugger late (70_reset_and_hazards.md R888): the breakpoint and
watchpoint registers, EDSCR.{HDE, INTdis, TDA, MA}, EDSCR2, EDECCR, EDECR and the OS Lock. -/
inductive ControlReg where
  | bvr (n : Index)
  | bcr (n : Index)
  | wvr (n : Index)
  | wcr (n : Index)
  | edscr
  | edscr2
  | edeccr
  | edecr
  | oslk
deriving DecidableEq, Repr

/-- The places of one step at which a value or a choice is left open; distinct places draw independently. -/
inductive FreeSlot where
  /-- the whole word of a read that returns UNKNOWN (R14 WO) -/
  | readWord
  /-- LBN and LBNX of a control register that is not of a linked type (40 R227, R233) -/
  | lbn
  /-- the "Reserved, UNKNOWN" bits of an ID register (43 R432, 45 R576) -/
  | idReserved
  /-- RES0 or ERROR for an absent register (30_encoding.md R190, 40 R232, 42 R381) -/
  | absentError
  | bvr (n : Nat)
  | bcr (n : Nat)
  | wvr (n : Nat)
  | wcr (n : Nat)
  | dtrrx
  | dtrtx
  | itr
  | edacr
  | pcsrLo
  | pcsrHi
  | cidsr
  | vidsr
  | pcsrFirst
  | sampleHV
  | sampleContext
  | edwar
  | edhsr
  | sdr
  | pipeAdv
  /-- an EDSCR field that reads UNKNOWN in Non-debug state (47 R706 to R715, R737) -/
  | edscrView
  | sdd
  /-- the authentication predicates as the PE sees them (20_memory.md R162) -/
  | auth
  /-- the value of a control as the PE sees it, where the debugger wrote it lately (70_reset_and_hazards.md R888) -/
  | late (r : ControlReg)
  /-- the value EDSCR.INTdis behaves as, where it holds a reserved one (47 R711) -/
  | intdis
  /-- whether a breakpoint or watchpoint with an unsettled MASK is disabled, and the MASK it behaves as (40 R230, 41 R324) -/
  | maskDisabled (k : Nat)
  | maskValue (k : Nat)
  | flags
  /-- an EDPRSR field that is UNKNOWN in the present power or lock state (46 R640 to R659) -/
  | prsr
  /-- whether a sticky bit is cleared under the OS Double Lock (46 R640 to R659) -/
  | prsrClear (k : Nat)
  | prcr
  | edecr
  /-- a place that no rule uses yet -/
  | other (k : Nat)
deriving DecidableEq, Repr

/-- A value the source calls UNKNOWN, drawn at place `slot` of step number `draw`: nothing is known of it
(R13; notes/assumptions/9.md). -/
opaque Config.freeWord (draw : Nat) (slot : FreeSlot) : BitVec 64

/-- A CONSTRAINED UNPREDICTABLE choice between two behaviours, made at place `slot` of step number `draw`. -/
opaque Config.freeChoice (draw : Nat) (slot : FreeSlot) : Bool

/-- The registers whose ladder ends in "IMPLEMENTATION DEFINED" (R7 IMPDEF_access). -/
inductive ImpdefReg where
  | edacr
  | editctrl
  | midr
  | edpfr
  | eddfr
  | eddfr1
  | eddfr2
  | edaa32pfr
deriving DecidableEq, Repr

/-- The result of a register-level access ladder (R14, 30_encoding.md R186). -/
inductive AccessResult where
  | error
  | ro
  | wi
  | wo
  | rw
deriving DecidableEq, Repr, Inhabited

end Sys2Proof
end

