-- ==== Sys2Proof/Machine/Operands.lean ====
section
/-!
DEFINITION. The forms a register word's bits take: bit fields, the halves of a 64-bit register, the reading and writing of
reserved bits (00_scope.md R14), and, for every register, which bits are implemented fields (10_state.md part 6).
-/

namespace Sys2Proof.Machine

/-! ## Bit fields -/

/-- `w` with bit `k` written. -/
def setBit {n : Nat} (w : BitVec n) (k : Nat) (b : Bool) : BitVec n :=
  if b then w ||| (1#n <<< k) else w &&& ~~~(1#n <<< k)

/-- One bit as a word, in position `k`. -/
def bitAt (k : Nat) (b : Bool) : Word := (BitVec.ofBool b).setWidth 32 <<< k

/-- A field as a word, at its lowest bit position `lo`. -/
def fieldAt {n : Nat} (lo : Nat) (v : BitVec n) : Word := v.setWidth 32 <<< lo

/-- The mask of a field of `width` bits at `lo`. -/
def maskAt (lo width : Nat) : Word := (BitVec.allOnes width).setWidth 32 <<< lo

/-- `mask` if the condition holds, else no bit. -/
def maskIf {n : Nat} (c : Bool) (mask : BitVec n) : BitVec n := if c then mask else 0

/-- `old` with the bits of `mask` taken from `new`. -/
def merge {n : Nat} (mask old new : BitVec n) : BitVec n := (old &&& ~~~mask) ||| (new &&& mask)

/-! ## The halves of a 64-bit register (20_memory.md R141) -/

/-- Bits [31:0]. -/
def loHalf (v : Dword) : Word := v.extractLsb' 0 32

/-- Bits [63:32]. -/
def hiHalf (v : Dword) : Word := v.extractLsb' 32 32

/-- The word `w` of a register: 0 is bits [31:0], 1 is bits [63:32]. -/
def halfOf (hi : Bool) (v : Dword) : Word := if hi then hiHalf v else loHalf v

/-- `v` with one half replaced. -/
def setHalf (hi : Bool) (v : Dword) (d : Word) : Dword := if hi then d ++ loHalf v else hiHalf v ++ d

/-! ## Reserved bits (R14, R191) -/

/-- The read of a stored word: the bits of `fields` as stored; of the other bits, those of `res1` read 1 always
(93_implementation_defined.md U73), the rest as stored with RES0_storage and 0 without (notes/assumptions/10.md). -/
def readStored {n : Nat} (storage : Bool) (fields res1 raw : BitVec n) : BitVec n :=
  (if storage then raw else raw &&& fields) ||| (res1 &&& ~~~fields)

/-- The write of a stored word: the bits of `fields`, and with RES0_storage the bits of `reserved` too. -/
def writeStored {n : Nat} (storage : Bool) (fields reserved raw d : BitVec n) : BitVec n :=
  merge (if storage then fields ||| reserved else fields) raw d

/-! ## The implemented fields of the breakpoint and watchpoint registers -/

/-- The fields of DBGBCR<n>_EL1 bits [31:0] (10_state.md R52, 40 R239). -/
def bcrFields (c : Config) (n : Index) : Word :=
  maskAt 0 3 ||| maskIf (c.hasBT2 n) (maskAt 3 1) ||| maskIf c.dbg.aa32 (maskAt 5 4) ||| maskAt 13 11 |||
    maskIf c.dbg.bwe (maskAt 24 5) ||| maskIf c.sys.rme (maskAt 29 1) ||| maskIf c.dbg.debugv8p9 (maskAt 30 2)

/-- BT is 0b0x1x or 0b1xxx: a context matching breakpoint (40 R230 c3, R231). -/
def isContextType (bt : BitVec 4) : Bool := bt.getLsbD 3 || bt.getLsbD 1

/-- The RES1 bits of DBGBCR<n>_EL1: BAS without FEAT_AA32 (R52), and for a context matching breakpoint (40 R235). -/
def bcrRes1 (c : Config) (bt : BitVec 4) : Word := maskIf (!c.dbg.aa32 || isContextType bt) (maskAt 5 4)

/-- The fields of DBGWCR<n>_EL1 bits [31:0] (10_state.md R58, 41 R333). -/
def wcrFields (c : Config) : Word :=
  maskAt 0 21 ||| maskIf c.dbg.bwe2 (maskAt 22 1) ||| maskAt 24 5 ||| maskIf c.sys.rme (maskAt 29 1) |||
    maskIf c.dbg.debugv8p9 (maskAt 30 2)

/-- The mask of bits [hi:lo] of a 64-bit register. -/
def dmask (hi lo : Nat) : Dword := ((BitVec.allOnes 64) >>> (63 - hi)) &&& ((BitVec.allOnes 64) <<< lo)

/-- The seven layouts of DBGBVR<n>_EL1, and RES0 where the layout's condition does not hold (40 R241). -/
inductive BvrLayout where
  | address
  | contextID
  | contextEL1
  | vmid
  | vmidContext
  | contextEL2
  | fullContext
  | reserved
deriving DecidableEq, Repr

/-- The layout that BT selects (10_state.md R53, 40 R241): 0b0x0x, 0b001x, 0b011x, 0b100x, 0b101x, 0b110x, 0b111x. -/
def bvrLayout (c : Config) (bt : BitVec 4) : BvrLayout :=
  let el2 := c.pe.haveEL2
  let el2v8p1 := c.pe.haveEL2 && c.dbg.debugv8p1
  match bt.getLsbD 3, bt.getLsbD 2, bt.getLsbD 1 with
  | false, _, false => .address
  | false, false, true => .contextID
  | false, true, true => if el2v8p1 then .contextEL1 else .reserved
  | true, false, false => if el2 then .vmid else .reserved
  | true, false, true => if el2 then .vmidContext else .reserved
  | true, true, false => if el2v8p1 then .contextEL2 else .reserved
  | true, true, true => if el2v8p1 then .fullContext else .reserved

/-- The non-reserved bits of a layout, RESS bits not among them (R53). `vmid16` is the condition of VMID[15:8]:
FEAT_VMID16, VTCR_EL2.VS is 1, EL2 is not using AArch32 (40 R246, R247). -/
def BvrLayout.fields (c : Config) (vmid16 : Bool) : BvrLayout → Dword
  | .address => dmask c.vaTop 2
  | .contextID => dmask 31 0
  | .contextEL1 => dmask 31 0
  | .vmid => dmask 39 32 ||| maskIf vmid16 (dmask 47 40)
  | .vmidContext => dmask 39 0 ||| maskIf vmid16 (dmask 47 40)
  | .contextEL2 => dmask 63 32
  | .fullContext => dmask 63 0
  | .reserved => 0

/-- The RESS bits of an address register (R11). -/
def ressMask (c : Config) : Dword := dmask 63 (c.vaTop + 1)

/-- The bits of a layout that are RESS. -/
def BvrLayout.ress (c : Config) : BvrLayout → Dword
  | .address => ressMask c
  | _ => 0

/-- The RESS bits hardwired to copies of the most significant address bit (R11, 40 R243, 41 R342). -/
def copyTop (c : Config) (v : Dword) : Dword :=
  if v.getLsbD c.vaTop then v ||| ressMask c else v &&& ~~~ressMask c

/-- The read of an address register: bits [1:0] RES0, RESS bits hardwired or stored (40 R250, 41 R343). -/
def readAddress (c : Config) (raw : Dword) : Dword :=
  let v := if c.opt.res0Storage then raw else raw &&& ~~~(3 : Dword)
  if c.opt.ressWritable then v else copyTop c v

/-- The read of DBGBVR<n>_EL1 under a layout (40 R250). -/
def readBvr (c : Config) (vmid16 : Bool) (l : BvrLayout) (raw : Dword) : Dword :=
  match l with
  | .address => readAddress c raw
  | _ => readStored c.opt.res0Storage (l.fields c vmid16) 0 raw

/-- The bits of DBGBVR<n>_EL1 that a write stores under a layout (40 R251). -/
def bvrStored (c : Config) (vmid16 : Bool) (l : BvrLayout) : Dword :=
  let fields := l.fields c vmid16 ||| maskIf c.opt.ressWritable (l.ress c)
  if c.opt.res0Storage then fields ||| ~~~(l.fields c vmid16 ||| l.ress c) else fields

/-- The bits of DBGWVR<n>_EL1 that hold a field, RESS bits among them where they are stored (41 R342). -/
def wvrFields (c : Config) : Dword := dmask c.vaTop 2 ||| maskIf c.opt.ressWritable (ressMask c)

/-- The bits of DBGWVR<n>_EL1 that a write stores (41 R344). -/
def wvrStored (c : Config) : Dword := wvrFields c ||| maskIf c.opt.res0Storage 3

/-- The bits of DBGBVR<n>_EL1 that some layout stores. A Cold reset makes them UNKNOWN, and leaves the other bits, which
RES0_storage may hold, as they are (70 R861 "stored fields only", R866). -/
def bvrFieldsOfAnyLayout (c : Config) : Dword :=
  let fields := fun l => BvrLayout.fields c c.sys.vmid16 l
  fields .address ||| fields .contextID ||| maskIf c.opt.ressWritable (ressMask c) |||
    maskIf c.pe.haveEL2 (fields .vmid ||| fields .vmidContext) |||
    maskIf (c.pe.haveEL2 && c.dbg.debugv8p1) (fields .contextEL1 ||| fields .contextEL2 ||| fields .fullContext)

/-- The address an address register holds for comparison: `sext_64(REG[top:2]:0b00)` (R11); against an AArch32 address,
bits [31:2] alone (40 R243, 90_conflicts.md C4; for DBGWVR<n>_EL1 DEDUCED from 41 R342, notes/assumptions/44.md). -/
def comparedAddress (c : Config) (aa32 : Bool) (raw : Dword) : Dword :=
  if aa32 then raw &&& dmask 31 2 else copyTop c (raw &&& ~~~(3 : Dword))

/-- The address bits a MASK field of 3 to 31 excludes: `(1 << m) - 1` (40 R229, 41 R324). -/
def addressMask (m : BitVec 5) : Dword := ((1 : Dword) <<< m.toNat) - 1

/-- A MASK value is reserved: 0b00001 and 0b00010 (40 R229, 41 R324). -/
def maskReserved (m : BitVec 5) : Bool := m = 1 || m = 2

/-- Two addresses agree outside the bits that `m` excludes. -/
def agreesUnderMask (m : BitVec 5) (a b : Dword) : Bool := a &&& ~~~addressMask m = b &&& ~~~addressMask m

/-! ## The implemented fields of the control registers -/

/-- EDECCR (10_state.md R77). -/
def edeccrFields (c : Config) : Word :=
  let v2 := c.dbg.debugv8p2
  maskIf c.sys.rme (maskAt 20 3 ||| maskAt 17 2) |||
  maskIf (v2 && c.haveNonSecureEL2) (maskAt 14 1) ||| maskIf (v2 && c.haveNonSecureEL1) (maskAt 12 2) |||
  maskIf (v2 && c.pe.haveEL3) (maskAt 11 1) ||| maskIf (v2 && c.sys.sel2) (maskAt 10 1) |||
  maskIf (v2 && c.haveSecureEL1) (maskAt 8 2) |||
  maskIf c.haveNonSecureEL2 (maskAt 6 1) ||| maskIf c.haveNonSecureEL1 (maskAt 5 1) |||
  maskIf c.pe.haveEL3 (maskAt 3 1) ||| maskIf (v2 && c.sys.sel2) (maskAt 2 1) |||
  maskIf c.haveSecureEL1 (maskAt 1 1)

/-- EDECR.{TRBE, TRCE, PME}, the fields in the Core power domain (10_state.md R78, 44 R484). -/
def edecrCoreFields (c : Config) : Word :=
  maskIf (c.dbg.debugv8p9 && c.sys.trbeExt) (maskAt 6 1) |||
  maskIf (c.sys.etev1p3 && c.dbg.debugv8p9) (maskAt 5 1) |||
  maskIf (c.dbg.debugv8p9 && c.sys.pmuv3p9) (maskAt 4 1)

/-- EDECR (10_state.md R78). -/
def edecrFields (c : Config) : Word :=
  edecrCoreFields c ||| maskAt 2 1 ||| maskIf (!c.dbg.doPD) (maskAt 0 2)

/-- EDESR (10_state.md R79). -/
def edesrFields (c : Config) : Word := maskAt 0 3 ||| maskIf c.dbg.debugv8p8 (maskAt 3 1)

/-- EDSCR, the fields a debugger writes: TFO, INTdis, TDA, MA, SC2, HDE (47 R692, R711, R746). -/
def edscrWritable (c : Config) : Word :=
  maskIf c.sys.trf (maskAt 31 1) ||| maskIf (!(c.sys.rme || c.dbg.debugv8p4)) (maskAt 23 1) ||| maskAt 20 3 |||
    maskIf c.hasSC2 (maskAt 19 1) ||| maskAt 14 1

/-- EDSCR, the positions that are RES0 on this implementation (10_state.md R95). -/
def edscrReserved (c : Config) : Word :=
  maskIf (!c.sys.trf) (maskAt 31 1) ||| maskIf (c.sys.rme || c.dbg.debugv8p4) (maskAt 23 1) |||
    maskIf (!c.hasSC2) (maskAt 19 1) ||| maskAt 17 1 ||| maskIf (!c.sys.rme) (maskAt 15 1)

/-- EDSCR, the fields PE software writes through MDSCR_EL1 while the OS Lock is set (47 R703). -/
def edscrMdscr (c : Config) : Word :=
  (edscrWritable c &&& ~~~maskAt 20 1) ||| maskAt 29 2 ||| maskAt 26 2 ||| maskAt 6 1

/-- EDSCR2 (10_state.md R96). -/
def edscr2Fields (c : Config) : Word := maskIf c.hasEHBWE (maskAt 3 1) ||| maskIf c.hasTTA (maskAt 1 1)

/-- EDPRCR, the RES0 positions (10_state.md R92): all but CWRR, CORENPDRQ and, without FEAT_DoPD, COREPURQ. -/
def edprcrReserved (c : Config) : Word := ~~~(maskAt 0 2 ||| maskIf (!c.dbg.doPD) (maskAt 3 1))

/-- EDHSR, the fields the PE writes (10_state.md R80). -/
def edhsrFields (c : Config) : Dword :=
  maskIf (c.dbg.gcs && c.dbg.debugv8p9) (dmask 40 40) ||| dmask 23 15 |||
  maskIf c.dbg.debugv8p9 (dmask 13 13 ||| dmask 8 8 ||| dmask 6 6) ||| dmask 10 10

end Sys2Proof.Machine
end

