-- ==== Sys2Proof/Syntax.lean ====
section
/-!
DEFINITION. The instructions of the block: the read and write transactions of 30_encoding.md R180, one constructor for
each row of spec/opcode_table.json (R183). A read carries an access descriptor (R181), a write the written word too, a
word of the breakpoint and watchpoint arrays the index n (R184).
-/

namespace Sys2Proof

/-- The Security state an access is made in (R181). Realm and Root exist only with FEAT_RME. -/
inductive SecState where
  | nonSecure
  | secure
  | realm
  | root
deriving DecidableEq, Repr

/-- The access descriptor `addrdesc` (R181). -/
structure AddrDesc where
  /-- TRUE through the memory-mapped interface, FALSE through the external debug interface -/
  memoryMapped : Bool
  ss : SecState
deriving DecidableEq, Repr

/-- One transaction, by the register word it names and its direction. `Lo` is bits [31:0] and `Hi` bits [63:32] of a
64-bit register. -/
inductive Instr where
  /-- `RD EDESR`, offset 0x020, R501 -/
  | rdEdesr (ad : AddrDesc)
  /-- `WR EDESR`, offset 0x020, R502 -/
  | wrEdesr (d : Word) (ad : AddrDesc)
  /-- `RD EDECR`, offset 0x024, R487 -/
  | rdEdecr (ad : AddrDesc)
  /-- `WR EDECR`, offset 0x024, R488 -/
  | wrEdecr (d : Word) (ad : AddrDesc)
  /-- `RD EDSCR2`, offset 0x028, R752 -/
  | rdEdscr2 (ad : AddrDesc)
  /-- `WR EDSCR2`, offset 0x028, R752 -/
  | wrEdscr2 (d : Word) (ad : AddrDesc)
  /-- `RD EDWAR[31:0]`, offset 0x030, R762 -/
  | rdEdwarLo (ad : AddrDesc)
  /-- `WR EDWAR[31:0]`, offset 0x030, R762 -/
  | wrEdwarLo (d : Word) (ad : AddrDesc)
  /-- `RD EDWAR[63:32]`, offset 0x034, R762 -/
  | rdEdwarHi (ad : AddrDesc)
  /-- `WR EDWAR[63:32]`, offset 0x034, R762 -/
  | wrEdwarHi (d : Word) (ad : AddrDesc)
  /-- `RD EDHSR[31:0]`, offset 0x038, R520 -/
  | rdEdhsrLo (ad : AddrDesc)
  /-- `WR EDHSR[31:0]`, offset 0x038, R521 -/
  | wrEdhsrLo (d : Word) (ad : AddrDesc)
  /-- `RD EDHSR[63:32]`, offset 0x03C, R520 -/
  | rdEdhsrHi (ad : AddrDesc)
  /-- `WR EDHSR[63:32]`, offset 0x03C, R521 -/
  | wrEdhsrHi (d : Word) (ad : AddrDesc)
  /-- `RD DBGDTRRX_EL0`, offset 0x080, R303 -/
  | rdDbgdtrrx (ad : AddrDesc)
  /-- `WR DBGDTRRX_EL0`, offset 0x080, R302 -/
  | wrDbgdtrrx (d : Word) (ad : AddrDesc)
  /-- `RD EDITR`, offset 0x084, R537 -/
  | rdEditr (ad : AddrDesc)
  /-- `WR EDITR`, offset 0x084, R535 -/
  | wrEditr (d : Word) (ad : AddrDesc)
  /-- `RD EDSCR`, offset 0x088, R745 -/
  | rdEdscr (ad : AddrDesc)
  /-- `WR EDSCR`, offset 0x088, R746 -/
  | wrEdscr (d : Word) (ad : AddrDesc)
  /-- `RD DBGDTRTX_EL0`, offset 0x08C, R312 -/
  | rdDbgdtrtx (ad : AddrDesc)
  /-- `WR DBGDTRTX_EL0`, offset 0x08C, R313 -/
  | wrDbgdtrtx (d : Word) (ad : AddrDesc)
  /-- `RD EDRCR`, offset 0x090, R674 -/
  | rdEdrcr (ad : AddrDesc)
  /-- `WR EDRCR`, offset 0x090, R673 -/
  | wrEdrcr (d : Word) (ad : AddrDesc)
  /-- `RD EDACR`, offset 0x094, R363 -/
  | rdEdacr (ad : AddrDesc)
  /-- `WR EDACR`, offset 0x094, R364 -/
  | wrEdacr (d : Word) (ad : AddrDesc)
  /-- `RD EDECCR`, offset 0x098, R478 -/
  | rdEdeccr (ad : AddrDesc)
  /-- `WR EDECCR`, offset 0x098, R479 -/
  | wrEdeccr (d : Word) (ad : AddrDesc)
  /-- `RD EDPCSR[31:0]`, offset 0x0A0, R571 -/
  | rdEdpcsrLo (ad : AddrDesc)
  /-- `WR EDPCSR[31:0]`, offset 0x0A0, R573 -/
  | wrEdpcsrLo (d : Word) (ad : AddrDesc)
  /-- `RD EDCIDSR`, offset 0x0A4, R379 -/
  | rdEdcidsr (ad : AddrDesc)
  /-- `WR EDCIDSR`, offset 0x0A4, R380 -/
  | wrEdcidsr (d : Word) (ad : AddrDesc)
  /-- `RD EDVIDSR`, offset 0x0A8, R759 -/
  | rdEdvidsr (ad : AddrDesc)
  /-- `WR EDVIDSR`, offset 0x0A8, R759 -/
  | wrEdvidsr (d : Word) (ad : AddrDesc)
  /-- `RD EDPCSR[63:32]`, offset 0x0AC, R572 -/
  | rdEdpcsrHi (ad : AddrDesc)
  /-- `WR EDPCSR[63:32]`, offset 0x0AC, R573 -/
  | wrEdpcsrHi (d : Word) (ad : AddrDesc)
  /-- `RD OSLAR_EL1`, offset 0x300, R774 -/
  | rdOslar (ad : AddrDesc)
  /-- `WR OSLAR_EL1`, offset 0x300, R773 -/
  | wrOslar (d : Word) (ad : AddrDesc)
  /-- `RD EDPRCR`, offset 0x310, R630 -/
  | rdEdprcr (ad : AddrDesc)
  /-- `WR EDPRCR`, offset 0x310, R631 -/
  | wrEdprcr (d : Word) (ad : AddrDesc)
  /-- `RD EDPRSR`, offset 0x314, R662 -/
  | rdEdprsr (ad : AddrDesc)
  /-- `WR EDPRSR`, offset 0x314, R663 -/
  | wrEdprsr (d : Word) (ad : AddrDesc)
  /-- `RD DBGBVR<n>_EL1[31:0]`, offset 0x400 + 16n, R250 -/
  | rdDbgbvrLo (n : Index) (ad : AddrDesc)
  /-- `WR DBGBVR<n>_EL1[31:0]`, offset 0x400 + 16n, R251 -/
  | wrDbgbvrLo (n : Index) (d : Word) (ad : AddrDesc)
  /-- `RD DBGBVR<n>_EL1[63:32]`, offset 0x404 + 16n, R250 -/
  | rdDbgbvrHi (n : Index) (ad : AddrDesc)
  /-- `WR DBGBVR<n>_EL1[63:32]`, offset 0x404 + 16n, R251 -/
  | wrDbgbvrHi (n : Index) (d : Word) (ad : AddrDesc)
  /-- `RD DBGBCR<n>_EL1[31:0]`, offset 0x408 + 16n, R238 -/
  | rdDbgbcrLo (n : Index) (ad : AddrDesc)
  /-- `WR DBGBCR<n>_EL1[31:0]`, offset 0x408 + 16n, R239 -/
  | wrDbgbcrLo (n : Index) (d : Word) (ad : AddrDesc)
  /-- `RD DBGBCR<n>_EL1[63:32]`, offset 0x40C + 16n, R238 -/
  | rdDbgbcrHi (n : Index) (ad : AddrDesc)
  /-- `WR DBGBCR<n>_EL1[63:32]`, offset 0x40C + 16n, R239 -/
  | wrDbgbcrHi (n : Index) (d : Word) (ad : AddrDesc)
  /-- `RD DBGWVR<n>_EL1[31:0]`, offset 0x800 + 16n, R343 -/
  | rdDbgwvrLo (n : Index) (ad : AddrDesc)
  /-- `WR DBGWVR<n>_EL1[31:0]`, offset 0x800 + 16n, R344 -/
  | wrDbgwvrLo (n : Index) (d : Word) (ad : AddrDesc)
  /-- `RD DBGWVR<n>_EL1[63:32]`, offset 0x804 + 16n, R343 -/
  | rdDbgwvrHi (n : Index) (ad : AddrDesc)
  /-- `WR DBGWVR<n>_EL1[63:32]`, offset 0x804 + 16n, R344 -/
  | wrDbgwvrHi (n : Index) (d : Word) (ad : AddrDesc)
  /-- `RD DBGWCR<n>_EL1[31:0]`, offset 0x808 + 16n, R332 -/
  | rdDbgwcrLo (n : Index) (ad : AddrDesc)
  /-- `WR DBGWCR<n>_EL1[31:0]`, offset 0x808 + 16n, R333 -/
  | wrDbgwcrLo (n : Index) (d : Word) (ad : AddrDesc)
  /-- `RD DBGWCR<n>_EL1[63:32]`, offset 0x80C + 16n, R332 -/
  | rdDbgwcrHi (n : Index) (ad : AddrDesc)
  /-- `WR DBGWCR<n>_EL1[63:32]`, offset 0x80C + 16n, R333 -/
  | wrDbgwcrHi (n : Index) (d : Word) (ad : AddrDesc)
  /-- `RD MIDR_EL1`, offset 0xD00, R768 -/
  | rdMidr (ad : AddrDesc)
  /-- `WR MIDR_EL1`, offset 0xD00, R768 -/
  | wrMidr (d : Word) (ad : AddrDesc)
  /-- `RD EDPFR[31:0]`, offset 0xD20, R586 -/
  | rdEdpfrLo (ad : AddrDesc)
  /-- `WR EDPFR[31:0]`, offset 0xD20, R587 -/
  | wrEdpfrLo (d : Word) (ad : AddrDesc)
  /-- `RD EDPFR[63:32]`, offset 0xD24, R586 -/
  | rdEdpfrHi (ad : AddrDesc)
  /-- `WR EDPFR[63:32]`, offset 0xD24, R587 -/
  | wrEdpfrHi (d : Word) (ad : AddrDesc)
  /-- `RD EDDFR[31:0]`, offset 0xD28, R440 -/
  | rdEddfrLo (ad : AddrDesc)
  /-- `WR EDDFR[31:0]`, offset 0xD28, R441 -/
  | wrEddfrLo (d : Word) (ad : AddrDesc)
  /-- `RD EDDFR[63:32]`, offset 0xD2C, R440 -/
  | rdEddfrHi (ad : AddrDesc)
  /-- `WR EDDFR[63:32]`, offset 0xD2C, R441 -/
  | wrEddfrHi (d : Word) (ad : AddrDesc)
  /-- `RD EDDFR1[31:0]`, offset 0xD48, R452 -/
  | rdEddfr1Lo (ad : AddrDesc)
  /-- `WR EDDFR1[31:0]`, offset 0xD48, R453 -/
  | wrEddfr1Lo (d : Word) (ad : AddrDesc)
  /-- `RD EDDFR1[63:32]`, offset 0xD4C, R452 -/
  | rdEddfr1Hi (ad : AddrDesc)
  /-- `WR EDDFR1[63:32]`, offset 0xD4C, R453 -/
  | wrEddfr1Hi (d : Word) (ad : AddrDesc)
  /-- `RD EDDFR2[31:0]`, offset 0xD50, R462 -/
  | rdEddfr2Lo (ad : AddrDesc)
  /-- `WR EDDFR2[31:0]`, offset 0xD50, R463 -/
  | wrEddfr2Lo (d : Word) (ad : AddrDesc)
  /-- `RD EDDFR2[63:32]`, offset 0xD54, R462 -/
  | rdEddfr2Hi (ad : AddrDesc)
  /-- `WR EDDFR2[63:32]`, offset 0xD54, R463 -/
  | wrEddfr2Hi (d : Word) (ad : AddrDesc)
  /-- `RD EDAA32PFR[31:0]`, offset 0xD60, R357 -/
  | rdEdaa32pfrLo (ad : AddrDesc)
  /-- `WR EDAA32PFR[31:0]`, offset 0xD60, R358 -/
  | wrEdaa32pfrLo (d : Word) (ad : AddrDesc)
  /-- `RD EDAA32PFR[63:32]`, offset 0xD64, R357 -/
  | rdEdaa32pfrHi (ad : AddrDesc)
  /-- `WR EDAA32PFR[63:32]`, offset 0xD64, R358 -/
  | wrEdaa32pfrHi (d : Word) (ad : AddrDesc)
  /-- `RD EDITCTRL`, offset 0xF00, R529 -/
  | rdEditctrl (ad : AddrDesc)
  /-- `WR EDITCTRL`, offset 0xF00, R530 -/
  | wrEditctrl (d : Word) (ad : AddrDesc)
  /-- `RD DBGCLAIMSET_EL1`, offset 0xFA0, R288 -/
  | rdDbgclaimset (ad : AddrDesc)
  /-- `WR DBGCLAIMSET_EL1`, offset 0xFA0, R289 -/
  | wrDbgclaimset (d : Word) (ad : AddrDesc)
  /-- `RD DBGCLAIMCLR_EL1`, offset 0xFA4, R283 -/
  | rdDbgclaimclr (ad : AddrDesc)
  /-- `WR DBGCLAIMCLR_EL1`, offset 0xFA4, R284 -/
  | wrDbgclaimclr (d : Word) (ad : AddrDesc)
  /-- `RD EDDEVAFF0`, offset 0xFA8, R384 -/
  | rdEddevaff0 (ad : AddrDesc)
  /-- `WR EDDEVAFF0`, offset 0xFA8, R385 -/
  | wrEddevaff0 (d : Word) (ad : AddrDesc)
  /-- `RD EDDEVAFF1`, offset 0xFAC, R387 -/
  | rdEddevaff1 (ad : AddrDesc)
  /-- `WR EDDEVAFF1`, offset 0xFAC, R388 -/
  | wrEddevaff1 (d : Word) (ad : AddrDesc)
  /-- `RD EDLAR`, offset 0xFB0, R554 -/
  | rdEdlar (ad : AddrDesc)
  /-- `WR EDLAR`, offset 0xFB0, R553 -/
  | wrEdlar (d : Word) (ad : AddrDesc)
  /-- `RD EDLSR`, offset 0xFB4, R562 -/
  | rdEdlsr (ad : AddrDesc)
  /-- `WR EDLSR`, offset 0xFB4, R563 -/
  | wrEdlsr (d : Word) (ad : AddrDesc)
  /-- `RD DBGAUTHSTATUS_EL1`, offset 0xFB8, R223 -/
  | rdDbgauthstatus (ad : AddrDesc)
  /-- `WR DBGAUTHSTATUS_EL1`, offset 0xFB8, R224 -/
  | wrDbgauthstatus (d : Word) (ad : AddrDesc)
  /-- `RD EDDEVARCH`, offset 0xFBC, R395 -/
  | rdEddevarch (ad : AddrDesc)
  /-- `WR EDDEVARCH`, offset 0xFBC, R396 -/
  | wrEddevarch (d : Word) (ad : AddrDesc)
  /-- `RD EDDEVID2`, offset 0xFC0, R416 -/
  | rdEddevid2 (ad : AddrDesc)
  /-- `WR EDDEVID2`, offset 0xFC0, R417 -/
  | wrEddevid2 (d : Word) (ad : AddrDesc)
  /-- `RD EDDEVID1`, offset 0xFC4, R411 -/
  | rdEddevid1 (ad : AddrDesc)
  /-- `WR EDDEVID1`, offset 0xFC4, R412 -/
  | wrEddevid1 (d : Word) (ad : AddrDesc)
  /-- `RD EDDEVID`, offset 0xFC8, R404 -/
  | rdEddevid (ad : AddrDesc)
  /-- `WR EDDEVID`, offset 0xFC8, R405 -/
  | wrEddevid (d : Word) (ad : AddrDesc)
  /-- `RD EDDEVTYPE`, offset 0xFCC, R421 -/
  | rdEddevtype (ad : AddrDesc)
  /-- `WR EDDEVTYPE`, offset 0xFCC, R422 -/
  | wrEddevtype (d : Word) (ad : AddrDesc)
  /-- `RD EDPIDR4`, offset 0xFD0, R601 -/
  | rdEdpidr4 (ad : AddrDesc)
  /-- `WR EDPIDR4`, offset 0xFD0, R602 -/
  | wrEdpidr4 (d : Word) (ad : AddrDesc)
  /-- `RD EDPIDR0`, offset 0xFE0, R593 -/
  | rdEdpidr0 (ad : AddrDesc)
  /-- `WR EDPIDR0`, offset 0xFE0, R594 -/
  | wrEdpidr0 (d : Word) (ad : AddrDesc)
  /-- `RD EDPIDR1`, offset 0xFE4, R595 -/
  | rdEdpidr1 (ad : AddrDesc)
  /-- `WR EDPIDR1`, offset 0xFE4, R596 -/
  | wrEdpidr1 (d : Word) (ad : AddrDesc)
  /-- `RD EDPIDR2`, offset 0xFE8, R597 -/
  | rdEdpidr2 (ad : AddrDesc)
  /-- `WR EDPIDR2`, offset 0xFE8, R598 -/
  | wrEdpidr2 (d : Word) (ad : AddrDesc)
  /-- `RD EDPIDR3`, offset 0xFEC, R599 -/
  | rdEdpidr3 (ad : AddrDesc)
  /-- `WR EDPIDR3`, offset 0xFEC, R600 -/
  | wrEdpidr3 (d : Word) (ad : AddrDesc)
  /-- `RD EDCIDR0`, offset 0xFF0, R367 -/
  | rdEdcidr0 (ad : AddrDesc)
  /-- `WR EDCIDR0`, offset 0xFF0, R368 -/
  | wrEdcidr0 (d : Word) (ad : AddrDesc)
  /-- `RD EDCIDR1`, offset 0xFF4, R369 -/
  | rdEdcidr1 (ad : AddrDesc)
  /-- `WR EDCIDR1`, offset 0xFF4, R370 -/
  | wrEdcidr1 (d : Word) (ad : AddrDesc)
  /-- `RD EDCIDR2`, offset 0xFF8, R371 -/
  | rdEdcidr2 (ad : AddrDesc)
  /-- `WR EDCIDR2`, offset 0xFF8, R372 -/
  | wrEdcidr2 (d : Word) (ad : AddrDesc)
  /-- `RD EDCIDR3`, offset 0xFFC, R373 -/
  | rdEdcidr3 (ad : AddrDesc)
  /-- `WR EDCIDR3`, offset 0xFFC, R374 -/
  | wrEdcidr3 (d : Word) (ad : AddrDesc)
deriving DecidableEq, Repr

/-- The access descriptor of a transaction. -/
def Instr.ad : Instr → AddrDesc
  | .rdEdesr ad => ad
  | .wrEdesr _ ad => ad
  | .rdEdecr ad => ad
  | .wrEdecr _ ad => ad
  | .rdEdscr2 ad => ad
  | .wrEdscr2 _ ad => ad
  | .rdEdwarLo ad => ad
  | .wrEdwarLo _ ad => ad
  | .rdEdwarHi ad => ad
  | .wrEdwarHi _ ad => ad
  | .rdEdhsrLo ad => ad
  | .wrEdhsrLo _ ad => ad
  | .rdEdhsrHi ad => ad
  | .wrEdhsrHi _ ad => ad
  | .rdDbgdtrrx ad => ad
  | .wrDbgdtrrx _ ad => ad
  | .rdEditr ad => ad
  | .wrEditr _ ad => ad
  | .rdEdscr ad => ad
  | .wrEdscr _ ad => ad
  | .rdDbgdtrtx ad => ad
  | .wrDbgdtrtx _ ad => ad
  | .rdEdrcr ad => ad
  | .wrEdrcr _ ad => ad
  | .rdEdacr ad => ad
  | .wrEdacr _ ad => ad
  | .rdEdeccr ad => ad
  | .wrEdeccr _ ad => ad
  | .rdEdpcsrLo ad => ad
  | .wrEdpcsrLo _ ad => ad
  | .rdEdcidsr ad => ad
  | .wrEdcidsr _ ad => ad
  | .rdEdvidsr ad => ad
  | .wrEdvidsr _ ad => ad
  | .rdEdpcsrHi ad => ad
  | .wrEdpcsrHi _ ad => ad
  | .rdOslar ad => ad
  | .wrOslar _ ad => ad
  | .rdEdprcr ad => ad
  | .wrEdprcr _ ad => ad
  | .rdEdprsr ad => ad
  | .wrEdprsr _ ad => ad
  | .rdDbgbvrLo _ ad => ad
  | .wrDbgbvrLo _ _ ad => ad
  | .rdDbgbvrHi _ ad => ad
  | .wrDbgbvrHi _ _ ad => ad
  | .rdDbgbcrLo _ ad => ad
  | .wrDbgbcrLo _ _ ad => ad
  | .rdDbgbcrHi _ ad => ad
  | .wrDbgbcrHi _ _ ad => ad
  | .rdDbgwvrLo _ ad => ad
  | .wrDbgwvrLo _ _ ad => ad
  | .rdDbgwvrHi _ ad => ad
  | .wrDbgwvrHi _ _ ad => ad
  | .rdDbgwcrLo _ ad => ad
  | .wrDbgwcrLo _ _ ad => ad
  | .rdDbgwcrHi _ ad => ad
  | .wrDbgwcrHi _ _ ad => ad
  | .rdMidr ad => ad
  | .wrMidr _ ad => ad
  | .rdEdpfrLo ad => ad
  | .wrEdpfrLo _ ad => ad
  | .rdEdpfrHi ad => ad
  | .wrEdpfrHi _ ad => ad
  | .rdEddfrLo ad => ad
  | .wrEddfrLo _ ad => ad
  | .rdEddfrHi ad => ad
  | .wrEddfrHi _ ad => ad
  | .rdEddfr1Lo ad => ad
  | .wrEddfr1Lo _ ad => ad
  | .rdEddfr1Hi ad => ad
  | .wrEddfr1Hi _ ad => ad
  | .rdEddfr2Lo ad => ad
  | .wrEddfr2Lo _ ad => ad
  | .rdEddfr2Hi ad => ad
  | .wrEddfr2Hi _ ad => ad
  | .rdEdaa32pfrLo ad => ad
  | .wrEdaa32pfrLo _ ad => ad
  | .rdEdaa32pfrHi ad => ad
  | .wrEdaa32pfrHi _ ad => ad
  | .rdEditctrl ad => ad
  | .wrEditctrl _ ad => ad
  | .rdDbgclaimset ad => ad
  | .wrDbgclaimset _ ad => ad
  | .rdDbgclaimclr ad => ad
  | .wrDbgclaimclr _ ad => ad
  | .rdEddevaff0 ad => ad
  | .wrEddevaff0 _ ad => ad
  | .rdEddevaff1 ad => ad
  | .wrEddevaff1 _ ad => ad
  | .rdEdlar ad => ad
  | .wrEdlar _ ad => ad
  | .rdEdlsr ad => ad
  | .wrEdlsr _ ad => ad
  | .rdDbgauthstatus ad => ad
  | .wrDbgauthstatus _ ad => ad
  | .rdEddevarch ad => ad
  | .wrEddevarch _ ad => ad
  | .rdEddevid2 ad => ad
  | .wrEddevid2 _ ad => ad
  | .rdEddevid1 ad => ad
  | .wrEddevid1 _ ad => ad
  | .rdEddevid ad => ad
  | .wrEddevid _ ad => ad
  | .rdEddevtype ad => ad
  | .wrEddevtype _ ad => ad
  | .rdEdpidr4 ad => ad
  | .wrEdpidr4 _ ad => ad
  | .rdEdpidr0 ad => ad
  | .wrEdpidr0 _ ad => ad
  | .rdEdpidr1 ad => ad
  | .wrEdpidr1 _ ad => ad
  | .rdEdpidr2 ad => ad
  | .wrEdpidr2 _ ad => ad
  | .rdEdpidr3 ad => ad
  | .wrEdpidr3 _ ad => ad
  | .rdEdcidr0 ad => ad
  | .wrEdcidr0 _ ad => ad
  | .rdEdcidr1 ad => ad
  | .wrEdcidr1 _ ad => ad
  | .rdEdcidr2 ad => ad
  | .wrEdcidr2 _ ad => ad
  | .rdEdcidr3 ad => ad
  | .wrEdcidr3 _ ad => ad

/-- The transaction is a write (R180 `dir`). -/
def Instr.isWrite : Instr → Bool
  | .rdEdesr _ => false
  | .wrEdesr _ _ => true
  | .rdEdecr _ => false
  | .wrEdecr _ _ => true
  | .rdEdscr2 _ => false
  | .wrEdscr2 _ _ => true
  | .rdEdwarLo _ => false
  | .wrEdwarLo _ _ => true
  | .rdEdwarHi _ => false
  | .wrEdwarHi _ _ => true
  | .rdEdhsrLo _ => false
  | .wrEdhsrLo _ _ => true
  | .rdEdhsrHi _ => false
  | .wrEdhsrHi _ _ => true
  | .rdDbgdtrrx _ => false
  | .wrDbgdtrrx _ _ => true
  | .rdEditr _ => false
  | .wrEditr _ _ => true
  | .rdEdscr _ => false
  | .wrEdscr _ _ => true
  | .rdDbgdtrtx _ => false
  | .wrDbgdtrtx _ _ => true
  | .rdEdrcr _ => false
  | .wrEdrcr _ _ => true
  | .rdEdacr _ => false
  | .wrEdacr _ _ => true
  | .rdEdeccr _ => false
  | .wrEdeccr _ _ => true
  | .rdEdpcsrLo _ => false
  | .wrEdpcsrLo _ _ => true
  | .rdEdcidsr _ => false
  | .wrEdcidsr _ _ => true
  | .rdEdvidsr _ => false
  | .wrEdvidsr _ _ => true
  | .rdEdpcsrHi _ => false
  | .wrEdpcsrHi _ _ => true
  | .rdOslar _ => false
  | .wrOslar _ _ => true
  | .rdEdprcr _ => false
  | .wrEdprcr _ _ => true
  | .rdEdprsr _ => false
  | .wrEdprsr _ _ => true
  | .rdDbgbvrLo _ _ => false
  | .wrDbgbvrLo _ _ _ => true
  | .rdDbgbvrHi _ _ => false
  | .wrDbgbvrHi _ _ _ => true
  | .rdDbgbcrLo _ _ => false
  | .wrDbgbcrLo _ _ _ => true
  | .rdDbgbcrHi _ _ => false
  | .wrDbgbcrHi _ _ _ => true
  | .rdDbgwvrLo _ _ => false
  | .wrDbgwvrLo _ _ _ => true
  | .rdDbgwvrHi _ _ => false
  | .wrDbgwvrHi _ _ _ => true
  | .rdDbgwcrLo _ _ => false
  | .wrDbgwcrLo _ _ _ => true
  | .rdDbgwcrHi _ _ => false
  | .wrDbgwcrHi _ _ _ => true
  | .rdMidr _ => false
  | .wrMidr _ _ => true
  | .rdEdpfrLo _ => false
  | .wrEdpfrLo _ _ => true
  | .rdEdpfrHi _ => false
  | .wrEdpfrHi _ _ => true
  | .rdEddfrLo _ => false
  | .wrEddfrLo _ _ => true
  | .rdEddfrHi _ => false
  | .wrEddfrHi _ _ => true
  | .rdEddfr1Lo _ => false
  | .wrEddfr1Lo _ _ => true
  | .rdEddfr1Hi _ => false
  | .wrEddfr1Hi _ _ => true
  | .rdEddfr2Lo _ => false
  | .wrEddfr2Lo _ _ => true
  | .rdEddfr2Hi _ => false
  | .wrEddfr2Hi _ _ => true
  | .rdEdaa32pfrLo _ => false
  | .wrEdaa32pfrLo _ _ => true
  | .rdEdaa32pfrHi _ => false
  | .wrEdaa32pfrHi _ _ => true
  | .rdEditctrl _ => false
  | .wrEditctrl _ _ => true
  | .rdDbgclaimset _ => false
  | .wrDbgclaimset _ _ => true
  | .rdDbgclaimclr _ => false
  | .wrDbgclaimclr _ _ => true
  | .rdEddevaff0 _ => false
  | .wrEddevaff0 _ _ => true
  | .rdEddevaff1 _ => false
  | .wrEddevaff1 _ _ => true
  | .rdEdlar _ => false
  | .wrEdlar _ _ => true
  | .rdEdlsr _ => false
  | .wrEdlsr _ _ => true
  | .rdDbgauthstatus _ => false
  | .wrDbgauthstatus _ _ => true
  | .rdEddevarch _ => false
  | .wrEddevarch _ _ => true
  | .rdEddevid2 _ => false
  | .wrEddevid2 _ _ => true
  | .rdEddevid1 _ => false
  | .wrEddevid1 _ _ => true
  | .rdEddevid _ => false
  | .wrEddevid _ _ => true
  | .rdEddevtype _ => false
  | .wrEddevtype _ _ => true
  | .rdEdpidr4 _ => false
  | .wrEdpidr4 _ _ => true
  | .rdEdpidr0 _ => false
  | .wrEdpidr0 _ _ => true
  | .rdEdpidr1 _ => false
  | .wrEdpidr1 _ _ => true
  | .rdEdpidr2 _ => false
  | .wrEdpidr2 _ _ => true
  | .rdEdpidr3 _ => false
  | .wrEdpidr3 _ _ => true
  | .rdEdcidr0 _ => false
  | .wrEdcidr0 _ _ => true
  | .rdEdcidr1 _ => false
  | .wrEdcidr1 _ _ => true
  | .rdEdcidr2 _ => false
  | .wrEdcidr2 _ _ => true
  | .rdEdcidr3 _ => false
  | .wrEdcidr3 _ _ => true

end Sys2Proof
end

