-- ==== Sys2Proof/Machine/State.lean ====
section
/-!
DEFINITION. The state of the block and of the inputs it reads, as plain data (10_state.md R40 to R101), the reasons a
step can stop, and the state after reset. INVENTORY.md lists every field with its rule and reset value.
-/

namespace Sys2Proof.Machine

/-! ## Storage of the block -/

/-- The breakpoint and watchpoint registers (10_state.md R52, R53, R58, R59), each a 64-bit cell per index. -/
structure ArrayRegs where
  bvr : Vector Dword 64
  bcr : Vector Dword 64
  wvr : Vector Dword 64
  wcr : Vector Dword 64
deriving DecidableEq, Repr

/-- The CLAIM tags, the Debug Communication Channel and the Instruction Transfer Register (R44, R54 to R57, R82). -/
structure DccRegs where
  claim : BitVec 8
  dtrrx : Word
  dtrtx : Word
  itr : Word
  /-- the model's own: while EDSCR.ITE is 0, what has not completed is an operation issued by an access in Memory access
  mode, and not the word in ITR (R306, 44 R536; notes/assumptions/21.md) -/
  memoryOp : Bool
deriving DecidableEq, Repr

/-- The stored bits of the status and control registers; a bit that reports an input or is hardwired is not taken from
here (R61, R77 to R81, R92, R95, R96). -/
structure ControlRegs where
  edscr : Word
  edscr2 : Word
  edeccr : Word
  edecr : Word
  edesr : Word
  editctrl : Word
  edprcr : Word
  edacr : Word
deriving DecidableEq, Repr

/-- The PC Sample-based Profiling registers and their hidden flags (R44, R66, R85, R97). -/
structure SampleRegs where
  /-- EDPCSR[63:32]; EDPCSR[31:0] is not stored -/
  pcsrHi : Word
  cidsr : Word
  vidsr : Word
  /-- pcsr_fresh -/
  fresh : Bool
  /-- pcsr_first -/
  first : Bool
deriving DecidableEq, Repr

/-- What Debug state entry records, and the hidden halting state (R42, R44, R80, R98). -/
structure HaltRegs where
  halted : Bool
  edwar : Dword
  edhsr : Dword
  /-- the recorded watchpoint was taken from AArch32 state (47 R760) -/
  edwarAA32 : Bool
  /-- EDSCR.SDD as latched on entry to Debug state (47 R717) -/
  sdd : Bool
  /-- External Debug Request pending -/
  extRequest : Bool
  /-- imprecise entry allowed (46 R670) -/
  imprecise : Bool
  /-- EDECR.SS was changed in Non-debug state (44 R485) -/
  ssLoose : Bool
  /-- the model's own: the PE left reset state with a Reset Catch pending and halting allowed, and has executed nothing
  since (70 R865) -/
  resetCatchDue : Bool
deriving DecidableEq, Repr

/-- The sticky bits of EDPRSR (R93). -/
structure StickyBits where
  stad : Bool
  sdr : Bool
  spmad : Bool
  sdad : Bool
  sr : Bool
  spd : Bool
deriving DecidableEq, Repr

/-- The OS Lock and the Software Lock (R44). -/
structure Locks where
  oslk : Bool
  slk : Bool
deriving DecidableEq, Repr

/-- The states of the Core power domain (R44). -/
inductive CorePower where
  | powered
  | off
  | retention
deriving DecidableEq, Repr

/-- Power and reset (R42, R44, 70 R864, 46 R631). -/
structure PowerState where
  core : CorePower
  /-- PE.InReset -/
  inReset : Bool
  /-- the PE entered reset state with the OS Double Lock locked, or was reset anew in it while that was locked
  (46 R657; DEDUCED, notes/assumptions/25.md) -/
  resetWithDoubleLock : Bool
  /-- a Warm reset was requested through EDPRCR.CWRR and has not happened yet -/
  warmResetRequest : Bool
deriving DecidableEq, Repr

/-! ## Inputs of the block -/

/-- The Context ID registers a sample can show (42 R378). -/
structure ContextIds where
  /-- CONTEXTIDR_EL1 -/
  el1 : Word
  /-- CONTEXTIDR, Non-secure copy -/
  aa32NonSecure : Word
  /-- CONTEXTIDR, Secure copy (banked if EL3 is using AArch32) -/
  aa32Secure : Word
deriving DecidableEq, Repr

/-- What the block sees of the PE (R42). -/
structure PeView where
  el : BitVec 2
  ss : SecState
  /-- EL0, EL1, EL2, EL3 are using AArch64 -/
  el0AA64 : Bool
  el1AA64 : Bool
  el2AA64 : Bool
  el3AA64 : Bool
  /-- EL2 is enabled in the current Security state -/
  el2Enabled : Bool
  hcrE2H : Bool
  hcrTGE : Bool
  hcrAMO : Bool
  hcrxTMEA : Bool
  scrEnDSE : Bool
  virtualSError : Bool
  delegatedSError : Bool
  physicalSError : Bool
  context : ContextIds
  contextEL2 : Word
  /-- VTTBR_EL2.VMID -/
  vmid : BitVec 16
  /-- VTTBR.VMID (AArch32) -/
  vmid32 : BitVec 8
  /-- VTCR_EL2.VS -/
  vtcrVS : Bool
deriving DecidableEq, Repr

/-- The predicates of the authentication interface (00_scope.md R12, 60_exceptions.md R821). -/
structure Auth where
  /-- ExternalInvasiveDebugEnabled() -/
  invasive : Bool
  /-- ExternalSecureInvasiveDebugEnabled() -/
  secureInvasive : Bool
  /-- ExternalNoninvasiveDebugEnabled() -/
  noninvasive : Bool
  /-- ExternalSecureNoninvasiveDebugEnabled() -/
  secureNoninvasive : Bool
  /-- ExternalRootInvasiveDebugEnabled() -/
  rootInvasive : Bool
  /-- ExternalRealmInvasiveDebugEnabled() -/
  realmInvasive : Bool
  /-- ExternalRealmNoninvasiveDebugEnabled() -/
  realmNoninvasive : Bool
deriving DecidableEq, Repr

/-- One permission input per Security state of an access (60_exceptions.md R825). -/
structure PerSecState where
  nonSecure : Bool
  secure : Bool
  realm : Bool
  root : Bool
deriving DecidableEq, Repr

/-- The controls of MDCR_EL3 that are inputs of the block (R42); SDD is one that no rule reads. -/
structure Mdcr3 where
  edad : Bool
  edade : Bool
  epmad : Bool
  epmade : Bool
  etad : Bool
  etade : Bool
  ste : Bool
  rlte : Bool
  sdd : Bool
deriving DecidableEq, Repr

/-- The other inputs (R42, 60_exceptions.md R807, R823, R825, 45 R571, 46 R626, 47 R773). -/
structure Env where
  mdcr3 : Mdcr3
  /-- what else makes AllowExternalDebugAccess(), AllowExternalPMUAccess(), AllowExternalTraceAccess() FALSE -/
  allowDebug : PerSecState
  allowPMU : PerSecState
  allowTrace : PerSecState
  /-- the OS Double Lock as PE software left it -/
  doubleLock : Bool
  /-- HaltingAllowed() -/
  haltingAllowed : Bool
  /-- PCSampleProhibited() -/
  pcSampleProhibited : Bool
  /-- MDSCR_EL1.EMBWE, Effective value -/
  embwe : Bool
  /-- CTIDEVCTL.RCE -/
  ctiRCE : Bool
  /-- OSUnlockCatchEnabled() when FEAT_DoPD is implemented -/
  osUnlockCatch : Bool
  /-- the powerup request is asserted (46 R626) -/
  powerupRequest : Bool
  /-- MDCR_EL2: its controls are an input that no rule reads (R42; notes/assumptions/53.md) -/
  mdcr2 : Dword
  /-- MDSELR_EL1 as PE software left it: an input of which the rules read only whether it is RAZ/WI (R42, 47 R750;
  notes/assumptions/53.md) -/
  mdselr : Dword
deriving DecidableEq, Repr

/-! ## The named steps of the other agents (R101) -/

/-- The pending Halting debug events of EDESR (R79). -/
inductive PendingEvent where
  | ec
  | ss
  | rc
  | osuc
deriving DecidableEq, Repr

/-- The three Halting step codes (60_exceptions.md R805). -/
inductive StepKind where
  | normal
  | exclusive
  | noSyndrome
deriving DecidableEq, Repr

/-- How an Exception level is reached, for EDECCR (44 R473 to R477). -/
inductive CatchKind where
  /-- exception entry -/
  | entry
  /-- exception return -/
  | ret
  /-- reset entry -/
  | resetEntry
deriving DecidableEq, Repr

/-- An instruction that a breakpoint is tested against: its address, and whether the address is in an AArch32 stage 1
translation regime (40 R243). -/
structure FetchedAt where
  addr : Dword
  aa32 : Bool
deriving DecidableEq, Repr

/-- The kinds of data access that a watchpoint tells apart (41 R330, 44 R518, R519). -/
inductive DataKind where
  | load
  | store
  /-- an atomic instruction, which reads and writes the location -/
  | atomic
  | cacheMaintenance
deriving DecidableEq, Repr

/-- A data access that a watchpoint is tested against, and what the PE reports of it (41 R334, 44 R512 to R519,
47 R760). -/
structure DataAccess where
  kind : DataKind
  /-- the instruction that makes the access -/
  pc : FetchedAt
  /-- the lowest address accessed, and the number of bytes; with EDHSR.WPF, of the locations that the watchpoint is tested
  against and that might not have been accessed (44 R514) -/
  first : Dword
  size : Nat
  /-- made in AArch32 state -/
  aa32 : Bool
  /-- the address for EDWAR -/
  reported : Dword
  /-- the fields GCS, WPT, WPTV, WPF, FnP, VNCR and FnV for EDHSR, as far as the rules leave them to the PE -/
  syndrome : Dword
deriving DecidableEq, Repr

/-- A Halting debug event that the PE takes, with what the PE records (60_exceptions.md R805, R810). The last argument of a
breakpoint or watchpoint is the security control {SSCE, SSC, HMC, PMC or PAC} of which the PE found that it selects its
Exception level and Security state: the oracle of 41 R328. -/
inductive HaltReason where
  | breakpoint (n : Index) (pc : FetchedAt) (control : BitVec 6)
  | externalRequest
  | haltingStep (k : StepKind)
  | osUnlockCatch
  | resetCatch
  | watchpoint (n : Index) (a : DataAccess) (control : BitVec 6)
  | hltInstruction
  /-- a software access to a debug System register (EDSCR.TDA) -/
  | debugRegisterAccess
  /-- a software access to a trace System register (EDSCR2.TTA) -/
  | traceRegisterAccess
  | exceptionCatch (el : BitVec 2) (ss : SecState) (kind : CatchKind)
deriving DecidableEq, Repr

/-- The instruction in EDITR: an A64 instruction, or a T32 instruction with hw1 first (44 R534). -/
inductive ItrInstruction where
  | a64 (w : Word)
  | t32 (hw1 hw2 : BitVec 16)
deriving DecidableEq, Repr

/-- What the PE does when it executes the ITR word: an opaque PE step (44 R538). -/
structure ItrEffect where
  /-- the instruction of which this is the effect -/
  instruction : ItrInstruction
  pe : PeView
  /-- the other inputs, of which the PE owns some (10_state.md R42) -/
  env : Env
  /-- it reads DTRRX -/
  takesRx : Bool
  /-- it writes DTRTX -/
  putsTx : Option Word
  /-- it ends in an exception, so that EDSCR.ERR is set -/
  exception : Bool
deriving DecidableEq, Repr

/-- A System register view of a mapped register, for a write by PE software (R49): the AArch64 views of the breakpoint
and watchpoint registers, their AArch32 views, of 32 bits each, and the registers whose two views write the same bits.
`oslar` is OSLAR_EL1 and DBGOSLAR: which data written to DBGOSLAR locks is not in the source, so that bit 0 of the step's
data says what the write does (DESIGN CHOICE, notes/assumptions/50.md). -/
inductive SysReg where
  | dbgbvr (n : Index)
  | dbgbcr (n : Index)
  | dbgwvr (n : Index)
  | dbgwcr (n : Index)
  | dbgbvr32 (n : Index)
  | dbgbxvr (n : Index)
  | dbgbcr32 (n : Index)
  | dbgwvr32 (n : Index)
  | dbgwcr32 (n : Index)
  | claimSet
  | claimClr
  | oseccr
  | dbgprcr
  | oslar
deriving DecidableEq, Repr

/-- One step of an agent other than the two accessors (R101). -/
inductive AgentStep where
  | enterDebug (r : HaltReason)
  | eventPending (r : HaltReason)
  | takePending (f : PendingEvent) (k : StepKind)
  | restartRequest
  | exitDebug
  | takeItr (e : ItrEffect)
  /-- the PE goes on with a load or store of Memory access mode, or finishes it (41 R304, 70 R884); its view and the inputs
  it owns are as in `p` and `e` afterwards -/
  | memoryAccess (p : PeView) (e : Env)
  | takeRx
  | putTx (v : Word)
  | branchRetired (addr : Dword)
  | pipeAdvance
  | writeMdscr (v : Word) (ehbwe tta : Bool)
  | contextSync
  | sysWrite (r : SysReg) (v : Dword)
  | coldReset
  | warmReset
  | externalDebugReset
  | leaveReset
  | powerDownCore
  | powerUpCore
  | enterRetention
  | leaveRetention
  | setAuth (a : Auth)
  | setEnv (e : Env)
  | setPe (p : PeView)
  /-- the PE takes an interrupt or an SError exception in Non-debug state; its view is `p` afterwards (60 R808) -/
  | takeInterrupt (p : PeView)
  | setExtRequest (b : Bool)
  | extTraceAccessFailed (ad : AddrDesc)
  | extPmuAccessFailed (ad : AddrDesc)
deriving DecidableEq, Repr

/-- One thing that happens to the block: a transaction, as the bytes of its frame, or an agent's step. -/
inductive Event where
  | access (bytes : List Byte)
  | agent (a : AgentStep)
deriving DecidableEq, Repr

/-- The response of a transaction (30_encoding.md R180). -/
inductive Response where
  /-- no transaction has completed yet -/
  | none
  | okRead (v : Word)
  | okWrite
  | error
deriving DecidableEq, Repr

/-! ## The state -/

/-- The state: the block, the inputs it reads, and the model's own bookkeeping (INVENTORY.md). -/
structure State where
  cfg : Config
  regs : ArrayRegs
  dcc : DccRegs
  ctl : ControlRegs
  smp : SampleRegs
  hal : HaltRegs
  sticky : StickyBits
  lock : Locks
  power : PowerState
  pe : PeView
  /-- the address of the most recent branch-retired sample (PE.SampleAddr, 45 R571) -/
  sampleAddr : Dword
  /-- the Context ID values since the last context synchronization event, latest first (42 R378) -/
  earlierContexts : List ContextIds
  auth : Auth
  /-- the authentication predicates since the last context synchronization event, latest first (20_memory.md R162) -/
  earlierAuth : List Auth
  env : Env
  /-- the values that controls had before the debugger changed them, since the last context synchronization event, latest
  first (70 R888, 20_memory.md R162; notes/assumptions/52.md) -/
  lateControls : List (ControlReg × Dword)
  /-- the model's own: the value EDACR took at its last reset (42 R364, D24) -/
  acrReset : Word
  /-- the model's own: the response of the last transaction -/
  response : Response
  /-- the model's own: what happens next, in order -/
  inputs : List Event
  /-- the model's own: the number of the step, to which the free values are applied -/
  draws : Nat
deriving DecidableEq, Repr

/-! ## Stops -/

/-- Why the machine stops with a fault. -/
inductive Fault where
  /-- Raised by `step` while EDITCTRL.IME is 1: integration mode is IMPLEMENTATION DEFINED and "with IME = 1 every
  other rule of this spec is void" (44 R528, D26). Safe: nothing is said of the machine from then on. -/
  | integrationMode
  /-- Raised by `step` while EDACR differs from its reset value: "no rule of this spec is guaranteed" (42 R364, D24,
  U6). Safe: nothing is said of the machine from then on. -/
  | auxiliaryControlChanged
deriving DecidableEq, Repr

/-- Why the machine refuses to run what it was given. -/
inductive Refusal where
  /-- An instruction without a meaning in this model. Raised by no arm of this model. Safe. -/
  | notModelled (mnemonic : String)
  /-- Raised by `step`: fewer bytes than a frame has. Safe: it is no transaction. -/
  | truncatedFrame
  /-- Raised by `step`: more bytes than a frame has. Safe: it is no transaction. -/
  | trailingBytes
  /-- Raised by `step`: bits [15:13] of the key are not 0. Safe: it is no transaction. -/
  | reservedKeyBits
  /-- Raised by `step`: the offset is not a multiple of 4 (20_memory.md R145). Safe: the spec refuses it too. -/
  | misaligned
  /-- Raised by `step`: an offset of case (c) of 30_encoding.md R190, at which the spec refuses to promise a response.
  Safe: the hardware may go on. -/
  | unlistedOffset
  /-- Raised by `step`: bits [7:3] of the descriptor byte are not 0. Safe: it is no transaction. -/
  | reservedDescriptor
  /-- Raised by `step`: a read that carries data. Safe: it is no transaction. -/
  | dataOnRead
  /-- Raised by `step`: a Realm or Root access without FEAT_RME (30_encoding.md R181). Safe: it is no transaction. -/
  | illFormedAccess
deriving DecidableEq, Repr

/-! ## Reset -/

/-- The parameters of CFG-A (95_test_vectors.md): the implementation that `State.reset` is of. DESIGN CHOICE where CFG-A
is silent, notes/assumptions/7.md: an absent feature, or the first value the spec lists, but for those that the entry names,
among them EDPFR.GIC (`gic`, 45 R580), 0b0001. -/
def configA : Config where
  dbg :=
    { aa32 := false, aa64 := true, able := false, bwe := false, bwe2 := false, debugv8p1 := true, debugv8p2 := true,
      debugv8p4 := true, debugv8p8 := false, debugv8p9 := false, doPD := false, doubleLock := false, edhsr := false,
      gcs := false, lva := false, lva3 := false }
  sys :=
    { pcsrv8 := true, pcsrv8p2 := false, pmuv3 := true, pmuv3Ext := false, pmuv3p9 := false, rme := false,
      sel2 := false, secureFeat := true, trbe := false, trbeExt := false, trcExt := false, trf := false,
      etev1p3 := false, vmid16 := false, sve := false, sme := false, nv2 := false, mops := false, e3dse := false,
      doubleFault2 := false }
  idf :=
    { amuv1 := false, amuv1p1 := false, fp16 := false, ete := false, etmv4 := false, pmuv3p1 := true, pmuv3p4 := true,
      pmuv3p5 := false, pmuv3p7 := false, pmuv3p8 := false, trbev1p1 := false }
  pe :=
    { haveEL2 := true, haveEL3 := true, secureImpl := true, nonSecureImpl := true, aa32AtEL0 := false,
      aa32AtEL1 := false, numBrp := 6, numWrp := 4, numCtxCmp := 2, numAblCmp := 0, mdselrRazWi := true,
      dcZvaLog2 := 6, minGranuleLog2 := 12 }
  has :=
    { softwareLock := true, edacr := false, edacrDomain := .core, edacrPreserved := 0, editctrl := false,
      editctrlDomain := .debug, coreSightID := true, cbrrq := false, ehbwe := false, edvidsr := true }
  opt :=
    { ressWritable := false, res0Storage := false, reservedMayError := false, cwrrExtent := .thisPE,
      corenpdrqReset := false, corenpdrqRetentionReset := false, dlkViewPU0 := false, spdInRetention := none,
      spdSetByRetention := false, oslarErrorWhenDisallowed := true, dtrErrAsWritten := false, intdisTwoBit := true,
      resetCatchOnResetEntry := false, oslkColdReset := true, retentionPowered := false }
  ident :=
    { midr := 0x411FD0C2, mmfr0 := 0, affU := false, affMT := false, aff3 := 0, aff2 := 0, aff1 := 1, aff0 := 2,
      partNumber := 0xD0C, designer := 0x3B, designerCont := 4, revision := 2, revand := 0, cmod := 0 }
  pfr :=
    { aa32MsaFrac := 0, aa32EL3 := 0, aa32EL2 := 0, aa32PMSA := 0, aa32VMSA := 0, amu := 0, gic := 1, advSIMD := 0,
      fp := 0, el3 := 1, el2 := 1, el1 := 1, el0 := 1 }
  dfr :=
    { pmuVer := 5, traceVer := 0, traceBuffer := 0, sebep := 0, pmss := 0, dfr1Brps := false, dfr1Wrps := false,
      dfr1CtxCmps := false, dpfzs := 0, ebep := 0, ite := 0, pmicntr := 0, spmu := 0, syspmuid := 0, trbeExc := 0,
      speNVM := 0, speExc := 0, step := 0, bweShown := false }

/-- The state after `external_debug_reset`, `cold_reset`, `pe_leave_reset` (70_reset_and_hazards.md R861 to R864, R868)
with Core power on. A register whose reset value is architecturally UNKNOWN holds 0 (DESIGN CHOICE,
notes/assumptions/5.md); inputs are as in R868 (DESIGN CHOICE, notes/assumptions/8.md). -/
def State.reset : State where
  cfg := configA
  regs :=
    { bvr := Vector.replicate 64 0, bcr := Vector.replicate 64 0, wvr := Vector.replicate 64 0,
      wcr := Vector.replicate 64 0 }
  dcc := { claim := 0, dtrrx := 0, dtrtx := 0, itr := 0, memoryOp := false }
  ctl :=
    { edscr := 0x00000002, edscr2 := 0, edeccr := 0, edecr := 0, edesr := 0, editctrl := 0, edprcr := 0, edacr := 0 }
  smp := { pcsrHi := 0, cidsr := 0, vidsr := 0, fresh := false, first := true }
  hal :=
    { halted := false, edwar := 0, edhsr := 0, edwarAA32 := false, sdd := false, extRequest := false, imprecise := false,
      ssLoose := false, resetCatchDue := false }
  sticky := { stad := false, sdr := false, spmad := false, sdad := false, sr := true, spd := true }
  lock := { oslk := true, slk := true }
  power := { core := .powered, inReset := false, resetWithDoubleLock := false, warmResetRequest := false }
  pe :=
    { el := 3, ss := .secure, el0AA64 := true, el1AA64 := true, el2AA64 := true, el3AA64 := true, el2Enabled := false,
      hcrE2H := false, hcrTGE := false, hcrAMO := false, hcrxTMEA := false, scrEnDSE := false, virtualSError := false,
      delegatedSError := false, physicalSError := false,
      context := { el1 := 0, aa32NonSecure := 0, aa32Secure := 0 }, contextEL2 := 0, vmid := 0, vmid32 := 0,
      vtcrVS := false }
  sampleAddr := 0
  earlierContexts := []
  auth :=
    { invasive := true, secureInvasive := true, noninvasive := true, secureNoninvasive := true, rootInvasive := true,
      realmInvasive := true, realmNoninvasive := true }
  earlierAuth := []
  env :=
    { mdcr3 :=
        { edad := false, edade := false, epmad := false, epmade := false, etad := false, etade := false, ste := false,
          rlte := false, sdd := false },
      allowDebug := { nonSecure := true, secure := true, realm := true, root := true },
      allowPMU := { nonSecure := true, secure := true, realm := true, root := true },
      allowTrace := { nonSecure := true, secure := true, realm := true, root := true },
      doubleLock := false, haltingAllowed := true, pcSampleProhibited := false, embwe := false, ctiRCE := false,
      osUnlockCatch := false, powerupRequest := false, mdcr2 := 0, mdselr := 0 }
  lateControls := []
  acrReset := 0
  response := .none
  inputs := []
  draws := 0

end Sys2Proof.Machine

namespace Sys2Proof

/-- R7 IMPDEF_access(reg, state): the implementation's response where a ladder ends in "IMPLEMENTATION DEFINED", as a
function of the register, of the state and of the access (notes/assumptions/42.md). What 42 R360 asks of it for the bits of
EDACR that are preserved over power down is in `State.acrAccessible` and its uses (notes/assumptions/56.md). -/
opaque Config.impdefAccess (reg : ImpdefReg) (s : Machine.State) (ad : AddrDesc) : AccessResult

end Sys2Proof
end

