-- ==== Sys2Proof/Machine/Flags.lean ====
section
/-!
DEFINITION. The flags of the block (10_state.md R47): the bits of EDSCR and EDESR that accesses and the PE set and clear,
by name, and the combined changes the rules make to them.
-/

namespace Sys2Proof.Machine

/-! ## Reading the stored bits -/

/-- EDSCR.RXfull (47 R694). -/
def State.rxfull (s : State) : Bool := s.ctl.edscr.getLsbD 30
/-- EDSCR.TXfull (47 R694). -/
def State.txfull (s : State) : Bool := s.ctl.edscr.getLsbD 29
/-- EDSCR.ITO (47 R706). -/
def State.ito (s : State) : Bool := s.ctl.edscr.getLsbD 28
/-- EDSCR.RXO (47 R695). -/
def State.rxo (s : State) : Bool := s.ctl.edscr.getLsbD 27
/-- EDSCR.TXU (47 R695). -/
def State.txu (s : State) : Bool := s.ctl.edscr.getLsbD 26
/-- EDSCR.PipeAdv (47 R709). -/
def State.pipeAdv (s : State) : Bool := s.ctl.edscr.getLsbD 25
/-- EDSCR.ITE (47 R710). -/
def State.ite (s : State) : Bool := s.ctl.edscr.getLsbD 24
/-- EDSCR.INTdis as stored (47 R711). -/
def State.intdis (s : State) : BitVec 2 := s.ctl.edscr.extractLsb' 22 2
/-- EDSCR.TDA (47 R712). -/
def State.tda (s : State) : Bool := s.ctl.edscr.getLsbD 21
/-- EDSCR.MA (47 R713). -/
def State.ma (s : State) : Bool := s.ctl.edscr.getLsbD 20
/-- EDSCR.SC2, 0 where it is RES0 (47 R714). -/
def State.sc2 (s : State) : Bool := s.cfg.hasSC2 && s.ctl.edscr.getLsbD 19
/-- EDSCR.HDE (47 R716). -/
def State.hde (s : State) : Bool := s.ctl.edscr.getLsbD 14
/-- EDSCR.ERR (47 R722). -/
def State.err (s : State) : Bool := s.ctl.edscr.getLsbD 6
/-- EDSCR.STATUS (47 R740). -/
def State.status (s : State) : BitVec 6 := s.ctl.edscr.extractLsb' 0 6
/-- EDSCR2.EHBWE, Effective value: 0 where it is RES0 (47 R750). -/
def State.ehbwe (s : State) : Bool := s.cfg.hasScr2 && s.cfg.hasEHBWE && s.ctl.edscr2.getLsbD 3
/-- EDSCR2.TTA, 0 where it is RES0 (47 R751). -/
def State.tta (s : State) : Bool := s.cfg.hasScr2 && s.cfg.hasTTA && s.ctl.edscr2.getLsbD 1
/-- EDECR.SS (44 R485). -/
def State.stepEnable (s : State) : Bool := s.ctl.edecr.getLsbD 2
/-- EDECR.RCE, 0 with FEAT_DoPD (44 R486). -/
def State.rce (s : State) : Bool := !s.cfg.dbg.doPD && s.ctl.edecr.getLsbD 1
/-- EDECR.OSUCE, 0 with FEAT_DoPD (44 R486). -/
def State.osuce (s : State) : Bool := !s.cfg.dbg.doPD && s.ctl.edecr.getLsbD 0
/-- EDPRCR.COREPURQ, 0 with FEAT_DoPD (46 R622). -/
def State.corepurq (s : State) : Bool := !s.cfg.dbg.doPD && s.ctl.edprcr.getLsbD 3
/-- EDPRCR.CORENPDRQ (46 R625). -/
def State.corenpdrq (s : State) : Bool := s.ctl.edprcr.getLsbD 0

/-- The bit of EDESR that records a pending event (10_state.md R79). -/
def PendingEvent.bit : PendingEvent → Nat
  | .ec => 3
  | .ss => 2
  | .rc => 1
  | .osuc => 0

/-- The event is pending; EC exists only with FEAT_Debugv8p8 (44 R496). -/
def State.isPending (s : State) (f : PendingEvent) : Bool :=
  (edesrFields s.cfg).getLsbD f.bit && s.ctl.edesr.getLsbD f.bit

/-! ## Combined changes of EDSCR -/

/-- A write of DBGDTRRX_EL0 that is accepted: RXfull (41 R302). -/
def edscrRxAccepted (w : Word) : Word := setBit w 30 true

/-- A DTRRX overrun: RXO and ERR (41 R302, 47 R722). -/
def edscrRxOverrun (w : Word) : Word := setBit (setBit w 27 true) 6 true

/-- A read of DBGDTRTX_EL0 that takes the word: TXfull cleared (41 R312). -/
def edscrTxTaken (w : Word) : Word := setBit w 29 false

/-- A DTRTX underrun: TXU and ERR (41 R312, 47 R722). -/
def edscrTxUnderrun (w : Word) : Word := setBit (setBit w 26 true) 6 true

/-- A write of EDITR that is accepted: ITE cleared (44 R535). -/
def edscrItrAccepted (w : Word) : Word := setBit w 24 false

/-- An ITR overrun: ITO and ERR (44 R535). -/
def edscrItrOverrun (w : Word) : Word := setBit (setBit w 28 true) 6 true

/-- EDRCR.CSE: TXU, RXO and ERR cleared, and ITO in Debug state (46 R672). -/
def edscrClearErrors (halted : Bool) (w : Word) : Word :=
  let v := setBit (setBit (setBit w 26 false) 27 false) 6 false
  if halted then setBit v 28 false else v

/-- EDRCR.CSPA: PipeAdv cleared (46 R671). -/
def edscrClearPipeAdv (w : Word) : Word := setBit w 25 false

/-- STATUS written (47 R740). -/
def edscrWithStatus (w : Word) (st : BitVec 6) : Word := merge (maskAt 0 6) w (fieldAt 0 st)

/-- Debug state entry: STATUS, ITO 0, MA 0, ITE 1 (60_exceptions.md R810, 47 R710 D27). -/
def edscrEnterDebug (w : Word) (st : BitVec 6) : Word :=
  setBit (setBit (setBit (edscrWithStatus w st) 28 false) 20 false) 24 true

/-- The status code "PE is in Non-debug state" (47 R740). -/
def statusNonDebug : BitVec 6 := 0b000010

/-- The status code "PE is restarting, exiting Debug state" (47 R740). -/
def statusRestarting : BitVec 6 := 0b000001

/-- The status code "Watchpoint" (47 R740). -/
def statusWatchpoint : BitVec 6 := 0b101011

/-- The status code of a Halting step (60_exceptions.md R805). -/
def StepKind.status : StepKind → BitVec 6
  | .normal => 0b011011
  | .exclusive => 0b011111
  | .noSyndrome => 0b111011

/-- The status code a Halting debug event leaves in EDSCR.STATUS (60_exceptions.md R805, 47 R740). -/
def HaltReason.status : HaltReason → BitVec 6
  | .breakpoint _ _ _ => 0b000111
  | .externalRequest => 0b010011
  | .haltingStep k => k.status
  | .osUnlockCatch => 0b100011
  | .resetCatch => 0b100111
  | .watchpoint _ _ _ => statusWatchpoint
  | .hltInstruction => 0b101111
  | .debugRegisterAccess => 0b110011
  | .traceRegisterAccess => 0b110011
  | .exceptionCatch _ _ _ => 0b110111

/-- The pending bit of EDESR that a Halting debug event has (60_exceptions.md R805). -/
def HaltReason.pending : HaltReason → Option PendingEvent
  | .haltingStep _ => some .ss
  | .osUnlockCatch => some .osuc
  | .resetCatch => some .rc
  | .exceptionCatch _ _ _ => some .ec
  | _ => none

/-- The reason that taking a pending event records (44 R500). An Exception Catch that was pending no longer names the
exception it came from; the code does not depend on it. -/
def PendingEvent.reason (k : StepKind) : PendingEvent → HaltReason
  | .ec => .exceptionCatch 0 .nonSecure .entry
  | .ss => .haltingStep k
  | .rc => .resetCatch
  | .osuc => .osUnlockCatch

/-- EDESR with the bit of an event written. -/
def edesrSet (w : Word) (f : PendingEvent) (b : Bool) : Word := setBit w f.bit b

end Sys2Proof.Machine
end

