-- ==== Sys2Proof/Machine/Ops.lean ====
section
/-!
DEFINITION. The named operations every meaning is built from: the conditions the access ladders test, the ladders
themselves (30_encoding.md R186, R187), the responses, the ERROR response (60_exceptions.md R801), the register arrays,
and, beside each other, entry to Debug state (R810) and exit from it (R812).
-/

namespace Sys2Proof.Machine

/-- The outcome of a meaning. -/
abbrev Result := Host.Outcome State Fault Refusal

/-! ## Free values of this step (00_scope.md R13) -/

/-- An UNKNOWN 64-bit value. -/
def State.free64 (s : State) (slot : FreeSlot) : Dword := Config.freeWord s.draws slot

/-- An UNKNOWN word. -/
def State.free32 (s : State) (slot : FreeSlot) : Word := (s.free64 slot).setWidth 32

/-- A free choice between two behaviours. -/
def State.flip (s : State) (slot : FreeSlot) : Bool := Config.freeChoice s.draws slot

/-! ## What the PE is doing -/

/-- The PE can act: its domain has power and it is not in reset state (70 R864). In the retention state no step of the PE
is enabled (DESIGN CHOICE, notes/assumptions/15.md: 60 R844 is silent). -/
def State.peActive (s : State) : Bool := s.power.core = .powered && !s.power.inReset

/-- The current Exception level is using AArch64. -/
def State.usingAA64 (s : State) : Bool :=
  if !s.cfg.dbg.aa32 then true
  else if !s.cfg.dbg.aa64 then false
  else if s.pe.el = 0 then s.pe.el0AA64
  else if s.pe.el = 1 then s.pe.el1AA64
  else if s.pe.el = 2 then s.pe.el2AA64
  else s.pe.el3AA64

/-! ## What the ladders test -/

/-- IsCorePowered() (60_exceptions.md R830); in the retention state it is the parameter `retentionPowered`
(DESIGN CHOICE, notes/assumptions/15.md). -/
def State.powered (s : State) : Bool :=
  match s.power.core with
  | .powered => true
  | .off => false
  | .retention => s.cfg.opt.retentionPowered

/-- DoubleLockStatus(): FALSE without FEAT_DoubleLock (60_exceptions.md R823). -/
def State.doubleLock (s : State) : Bool := s.cfg.dbg.doubleLock && s.env.doubleLock

/-- OSLockStatus() (60_exceptions.md R822). -/
def State.osLock (s : State) : Bool := s.lock.oslk

/-- SoftwareLockStatus() (60_exceptions.md R824). -/
def State.softLock (s : State) (ad : AddrDesc) : Bool :=
  ad.memoryMapped && s.cfg.hasSoftwareLock && s.lock.slk

/-- The Security states whose accesses an access-disable pair of MDCR_EL3 prohibits (60_exceptions.md R825). -/
def prohibited (c : Config) (ade ad : Bool) (ss : SecState) : Bool :=
  if c.sys.rme then
    match ade, ad with
    | false, false => false
    | false, true => ss = .realm || ss = .nonSecure
    | true, false => ss = .secure || ss = .nonSecure
    | true, true => ss = .secure || ss = .nonSecure || ss = .realm
  else if c.dbg.debugv8p4 then ad && ss = .nonSecure
  else ad

/-- The input of one Security state. -/
def PerSecState.at (p : PerSecState) : SecState → Bool
  | .nonSecure => p.nonSecure
  | .secure => p.secure
  | .realm => p.realm
  | .root => p.root

/-- An AllowExternalXAccess() function: an input, FALSE where EL3 exists and its controls prohibit the access
(60_exceptions.md R825; notes/assumptions/13.md). -/
def allowed (c : Config) (p : PerSecState) (ade ad : Bool) (ss : SecState) : Bool :=
  p.at ss && !(c.pe.haveEL3 && prohibited c ade ad ss)

/-- AllowExternalDebugAccess() for a Security state. -/
def State.allowDebugFor (s : State) (ss : SecState) : Bool :=
  allowed s.cfg s.env.allowDebug s.env.mdcr3.edade s.env.mdcr3.edad ss

/-- AllowExternalPMUAccess() for a Security state. -/
def State.allowPMUFor (s : State) (ss : SecState) : Bool :=
  allowed s.cfg s.env.allowPMU s.env.mdcr3.epmade s.env.mdcr3.epmad ss

/-- AllowExternalTraceAccess() for a Security state. -/
def State.allowTraceFor (s : State) (ss : SecState) : Bool :=
  allowed s.cfg s.env.allowTrace s.env.mdcr3.etade s.env.mdcr3.etad ss

/-- AllowExternalDebugAccess(addrdesc). -/
def State.allowDebug (s : State) (ad : AddrDesc) : Bool := s.allowDebugFor ad.ss

/-! ## The ERROR clauses (60_exceptions.md R802) -/

/-- The ERROR clause of a register's ladder, by the terms it names. -/
inductive ErrorClause where
  /-- FEAT_DoPD is implemented and !IsCorePowered() -/
  | coreOff
  /-- DoubleLockStatus() or !IsCorePowered() -/
  | core
  /-- the terms of `core`, or OSLockStatus() -/
  | locked
  /-- the terms of `locked`, or !AllowExternalDebugAccess(addrdesc) -/
  | guarded
  /-- OSLAR_EL1: the terms of `core`, or !AllowExternalDebugAccess(addrdesc) where that is an ERROR (47 R771) -/
  | oslar
deriving DecidableEq, Repr

/-- The clause holds. -/
def ErrorClause.holds (s : State) (ad : AddrDesc) : ErrorClause → Bool
  | .coreOff => s.cfg.dbg.doPD && !s.powered
  | .core => s.doubleLock || !s.powered
  | .locked => s.doubleLock || !s.powered || s.osLock
  | .guarded => s.doubleLock || !s.powered || s.osLock || !s.allowDebug ad
  | .oslar =>
    s.doubleLock || !s.powered ||
      (!s.allowDebug ad && (s.cfg.dbg.debugv8p2 || s.cfg.opt.oslarErrorWhenDisallowed))

/-- The clause names OSLockStatus(). -/
def ErrorClause.namesOSLock : ErrorClause → Bool
  | .locked => true
  | .guarded => true
  | _ => false

/-- The clause names !AllowExternalDebugAccess(addrdesc). -/
def ErrorClause.namesAllow : ErrorClause → Bool
  | .guarded => true
  | .oslar => true
  | _ => false

/-- The access-disable control is the sole reason for the ERROR (60_exceptions.md R801, D34). -/
def ErrorClause.soleCauseIsAllow (s : State) (ad : AddrDesc) (e : ErrorClause) : Bool :=
  s.powered && !s.doubleLock && !(s.osLock && e.namesOSLock) && e.namesAllow && !s.allowDebug ad

/-! ## Responses -/

/-- The read completes with OK(v). -/
def State.okRead (s : State) (v : Word) : State := { s with response := .okRead v }

/-- The write completes with OK. -/
def State.okWrite (s : State) : State := { s with response := .okWrite }

/-- The exception of this hardware: the access returns ERROR, and changes nothing but EDPRSR.SDAD
(60_exceptions.md R800, R801). -/
def State.raiseError (s : State) (ad : AddrDesc) (e : ErrorClause) : State :=
  { s with
    response := .error
    sticky := { s.sticky with sdad := s.sticky.sdad || e.soleCauseIsAllow s ad } }

/-! ## The ladders -/

/-- The clauses that follow the ERROR clause of a ladder (60_exceptions.md R802, the "then" columns). -/
inductive AccessKind where
  /-- RO -/
  | readOnly
  /-- RO under the Software Lock, else RW -/
  | readWrite
  /-- RW whatever the Software Lock (EDSCR2) -/
  | readWriteUnlocked
  /-- WI under the Software Lock, else WO -/
  | writeOnly
  /-- WO whatever the Software Lock (EDLAR) -/
  | writeOnlyUnlocked
deriving DecidableEq, Repr

/-- The register-level result of a ladder (30_encoding.md R186 step 3). -/
def ladder (s : State) (ad : AddrDesc) (e : ErrorClause) (k : AccessKind) : AccessResult :=
  if e.holds s ad then .error
  else
    match k with
    | .readOnly => .ro
    | .readWrite => if s.softLock ad then .ro else .rw
    | .readWriteUnlocked => .rw
    | .writeOnly => if s.softLock ad then .wi else .wo
    | .writeOnlyUnlocked => .wo

/-- A read under the register-level result shows what the register holds. -/
def readShows : AccessResult → Bool
  | .ro | .rw => true
  | .error | .wi | .wo => false

/-- A write under the register-level result stores its data. -/
def writeStores : AccessResult → Bool
  | .rw | .wo => true
  | .error | .ro | .wi => false

/-- A read after the register-level result: ERROR; the register's own read; or, of a WO register, UNKNOWN
(00_scope.md R14). R14 and 30_encoding.md R186 say nothing of a read where the result is WI and the register is not WO, which
only IMPDEF_access can name: it returns UNKNOWN too (DESIGN CHOICE, notes/assumptions/42.md). -/
def readBy (r : AccessResult) (e : ErrorClause) (ad : AddrDesc) (s : State) (k : State → State) : State :=
  match r with
  | .error => s.raiseError ad e
  | .ro => k s
  | .rw => k s
  | .wi => s.okRead (s.free32 .readWord)
  | .wo => s.okRead (s.free32 .readWord)

/-- A write after the register-level result: ERROR; ignored with OK (RO, WI); or the register's own write, after which
the response is OK. -/
def writeBy (r : AccessResult) (e : ErrorClause) (ad : AddrDesc) (s : State) (k : State → State) : State :=
  match r with
  | .error => s.raiseError ad e
  | .ro => s.okWrite
  | .wi => s.okWrite
  | .rw => (k s).okWrite
  | .wo => (k s).okWrite

/-- A read of a register under its ladder. -/
def readReg (e : ErrorClause) (k : AccessKind) (ad : AddrDesc) (s : State) (f : State → State) : State :=
  readBy (ladder s ad e k) e ad s f

/-- A write of a register under its ladder. -/
def writeReg (e : ErrorClause) (k : AccessKind) (ad : AddrDesc) (s : State) (f : State → State) : State :=
  writeBy (ladder s ad e k) e ad s f

/-- A read without side effect: the value of the register. -/
def readValue (e : ErrorClause) (k : AccessKind) (ad : AddrDesc) (s : State) (v : State → Word) : State :=
  readReg e k ad s fun t => t.okRead (v t)

/-! ### Ladders that end in IMPLEMENTATION DEFINED -/

/-- IMPDEF_access(reg, state) (00_scope.md R7). -/
def State.impdef (s : State) (reg : ImpdefReg) (ad : AddrDesc) : AccessResult := Config.impdefAccess reg s ad

/-- EDPFR, EDDFR, EDAA32PFR, EDDFR1, EDDFR2: RO while `readable`, ERROR with FEAT_DoPD and the Core off, else
IMPLEMENTATION DEFINED (42 R351, 43 R431, R443, R456, 45 R577). -/
def ladderFeature (s : State) (ad : AddrDesc) (reg : ImpdefReg) (readable : Bool) : AccessResult :=
  if readable then .ro
  else if s.cfg.dbg.doPD && !s.powered then .error
  else s.impdef reg ad

/-- MIDR_EL1: IMPLEMENTATION DEFINED while the Core is off or double locked, else RO (47 R766). -/
def ladderMidr (s : State) (ad : AddrDesc) : AccessResult :=
  if s.doubleLock || !s.powered then s.impdef .midr ad else .ro

/-- EDACR and EDITCTRL: IMPLEMENTATION DEFINED under the three terms, RO under the Software Lock, else RW (42 R361,
44 R527). What 42 R360 adds for EDACR is `State.acrAccessible`. -/
def ladderImpdefRW (s : State) (ad : AddrDesc) (reg : ImpdefReg) : AccessResult :=
  if s.doubleLock || !s.powered || s.osLock then s.impdef reg ad
  else if s.softLock ad then .ro
  else .rw

/-- The bits of EDACR that an access through the external debug interface must reach with the OS Lock set or the Core off:
without FEAT_DoPD, those that must be preserved over power down (42 R360, R361; DEDUCED, notes/assumptions/56.md). -/
def State.acrAccessible (s : State) (ad : AddrDesc) : Word :=
  maskIf (!s.cfg.dbg.doPD && !ad.memoryMapped && (s.osLock || !s.powered)) s.cfg.has.edacrPreserved

/-! ### Absent registers -/

/-- The response of an absent register: RES0, or, where its ERROR condition `may` holds, a free choice of RES0 or ERROR
(40 R232, 42 R381, 30_encoding.md R190). -/
def absent (may : Bool) (e : ErrorClause) (ad : AddrDesc) (s : State) (res0 : State → State) : State :=
  if may && s.flip .absentError then s.raiseError ad e else res0 s

/-- A read of the registers of an unimplemented breakpoint or watchpoint (40 R232). -/
def readUnimplemented (ad : AddrDesc) (s : State) : State :=
  absent (ErrorClause.guarded.holds s ad) .guarded ad s fun t => t.okRead 0

/-- A write of the registers of an unimplemented breakpoint or watchpoint (40 R232). -/
def writeUnimplemented (ad : AddrDesc) (s : State) : State :=
  absent (ErrorClause.guarded.holds s ad) .guarded ad s fun t => t.okWrite

/-- A read of a register that is "not present" (42 R381), whose ladder has the clause `locked`. -/
def readNotPresent (ad : AddrDesc) (s : State) : State :=
  absent (ErrorClause.locked.holds s ad) .locked ad s fun t => t.okRead 0

/-- A write of a register that is "not present" (42 R381). -/
def writeNotPresent (ad : AddrDesc) (s : State) : State :=
  absent (ErrorClause.locked.holds s ad) .locked ad s fun t => t.okWrite

/-- A read at a reserved offset, cases (a) and (b) of 30_encoding.md R190; it changes no state, SDAD included. -/
def readReserved (ad : AddrDesc) (s : State) : State :=
  absent (s.cfg.opt.reservedMayError && ErrorClause.guarded.holds s ad) .coreOff ad s fun t => t.okRead 0

/-- A write at a reserved offset, cases (a) and (b) of 30_encoding.md R190. -/
def writeReserved (ad : AddrDesc) (s : State) : State :=
  absent (s.cfg.opt.reservedMayError && ErrorClause.guarded.holds s ad) .coreOff ad s fun t => t.okWrite

/-- RD_ID(value) (42 head). -/
def readIdent (v : State → Word) (ad : AddrDesc) (s : State) : State := readValue .coreOff .readOnly ad s v

/-- WR_ID() (42 head). -/
def writeIdent (ad : AddrDesc) (s : State) : State := writeReg .coreOff .readOnly ad s id

/-- RD_ID(value) of an OPTIONAL identification register (42 head, 45 R592). -/
def readOptionalIdent (v : State → Word) (ad : AddrDesc) (s : State) : State :=
  if s.cfg.has.coreSightID then readIdent v ad s else readReserved ad s

/-- WR_ID() of an OPTIONAL identification register. -/
def writeOptionalIdent (ad : AddrDesc) (s : State) : State :=
  if s.cfg.has.coreSightID then writeIdent ad s else writeReserved ad s

/-! ## State updates -/

/-- EDSCR as `f` leaves it. -/
def State.mapEdscr (s : State) (f : Word → Word) : State := { s with ctl := { s.ctl with edscr := f s.ctl.edscr } }

/-- EDESR as `f` leaves it. -/
def State.mapEdesr (s : State) (f : Word → Word) : State := { s with ctl := { s.ctl with edesr := f s.ctl.edesr } }

/-- DBGBVR<n>_EL1, the stored value. -/
def State.bvr (s : State) (n : Index) : Dword := s.regs.bvr[n.toFin]
/-- DBGBCR<n>_EL1, the stored value. -/
def State.bcr (s : State) (n : Index) : Dword := s.regs.bcr[n.toFin]
/-- DBGWVR<n>_EL1, the stored value. -/
def State.wvr (s : State) (n : Index) : Dword := s.regs.wvr[n.toFin]
/-- DBGWCR<n>_EL1, the stored value. -/
def State.wcr (s : State) (n : Index) : Dword := s.regs.wcr[n.toFin]

/-- DBGBVR<n>_EL1 stored. -/
def State.setBvr (s : State) (n : Index) (v : Dword) : State :=
  { s with regs := { s.regs with bvr := s.regs.bvr.set n.toFin v n.toFin.isLt } }
/-- DBGBCR<n>_EL1 stored. -/
def State.setBcr (s : State) (n : Index) (v : Dword) : State :=
  { s with regs := { s.regs with bcr := s.regs.bcr.set n.toFin v n.toFin.isLt } }
/-- DBGWVR<n>_EL1 stored. -/
def State.setWvr (s : State) (n : Index) (v : Dword) : State :=
  { s with regs := { s.regs with wvr := s.regs.wvr.set n.toFin v n.toFin.isLt } }
/-- DBGWCR<n>_EL1 stored. -/
def State.setWcr (s : State) (n : Index) (v : Dword) : State :=
  { s with regs := { s.regs with wcr := s.regs.wcr.set n.toFin v n.toFin.isLt } }

/-- The OS Lock written with `b`; unlocking it while the OS Unlock Catch is enabled makes that event pending
(47 R773, 44 R499). With FEAT_DoPD the enable is an input (N30). -/
def State.osUnlockCatchEnabled (s : State) : Bool := if s.cfg.dbg.doPD then s.env.osUnlockCatch else s.osuce

/-- A write of bit 0 to the OS Lock (47 R773). -/
def State.writeOsLock (s : State) (b : Bool) : State :=
  let caught := s.lock.oslk && !b && s.osUnlockCatchEnabled
  { s with
    lock := { s.lock with oslk := b }
    ctl := { s.ctl with edesr := if caught then edesrSet s.ctl.edesr .osuc true else s.ctl.edesr } }

/-! ## What Debug state entry records -/

/-- The authentication predicates as the PE acts on them and EDSCR.SDD shows them: the present ones, or, until the next
context synchronization event, ones of before a change (20_memory.md R162; notes/assumptions/32.md). -/
def State.authSeen (s : State) : Auth :=
  match s.earlierAuth with
  | [] => s.auth
  | a :: rest =>
    let all := s.auth :: a :: rest
    all.getD ((s.free64 .auth).toNat % all.length) s.auth

/-- The value EDSCR.SDD takes on entry to Debug state (47 R717). -/
def State.sddOnEntry (s : State) : Bool :=
  if s.cfg.sys.rme then (if s.pe.el = 3 then false else !s.authSeen.rootInvasive)
  else if s.pe.ss = .secure then false
  else !s.authSeen.secureInvasive

/-- EDHSR.WnR (44 R519): 1 for a store and for cache maintenance; for an atomic instruction 0 if a read of the location
would have matched, that is if LSC selects loads. -/
def DataKind.wnr (lsc : BitVec 2) : DataKind → Bool
  | .load => false
  | .store => true
  | .atomic => !lsc.getLsbD 0
  | .cacheMaintenance => true

/-- The syndrome the PE writes to EDHSR for watchpoint `n`, of which LSC is `lsc` (44 R512 to R519, R522): CM and WnR, by
the kind of the access, and the implemented fields of what the PE reports; with FEAT_Debugv8p9 WPTV is 1; where WPTV is 1,
WPT is n; WPF, FnP and FnV are 0 without SVE and SME, VNCR is 0 without FEAT_NV2. -/
def watchSyndrome (c : Config) (n : Index) (lsc : BitVec 2) (a : DataAccess) : Dword :=
  let v := setBit (setBit a.syndrome 8 (decide (a.kind = .cacheMaintenance))) 6 (a.kind.wnr lsc)
  let v := v &&& edhsrFields c
  let v := if c.sys.sve || c.sys.sme then v else v &&& ~~~(dmask 16 15 ||| dmask 10 10)
  let v := if c.sys.nv2 then v else v &&& ~~~dmask 13 13
  let v := if c.dbg.debugv8p9 then setBit v 17 true else v
  if v.getLsbD 17 then merge (dmask 23 18) v (n.setWidth 64 <<< 18) else v

/-- DBGWCR<n>_EL1.LSC; 0b00 disables the watchpoint (41 R330). -/
def State.lsc (s : State) (n : Index) : BitVec 2 := (s.wcr n).extractLsb' 3 2

/-! ## What the PE sees of the debugger's writes (70 R888) -/

/-- The fields of EDSCR that the PE consults: INTdis, TDA, MA, HDE. -/
def edscrControls : Word := maskAt 20 4 ||| maskAt 14 1

/-- A control as it is, in the low bits of a doubleword; of EDSCR the fields that the PE consults. -/
def State.control (s : State) : ControlReg → Dword
  | .bvr n => s.bvr n
  | .bcr n => s.bcr n
  | .wvr n => s.wvr n
  | .wcr n => s.wcr n
  | .edscr => (s.ctl.edscr &&& edscrControls).setWidth 64
  | .edscr2 => s.ctl.edscr2.setWidth 64
  | .edeccr => s.ctl.edeccr.setWidth 64
  | .edecr => s.ctl.edecr.setWidth 64
  | .oslk => (BitVec.ofBool s.lock.oslk).setWidth 64

/-- The values of a control that the PE may see: the present one, and, until the next context synchronization event, those
that it had before the debugger changed it (DEDUCED, notes/assumptions/52.md). -/
def State.visible (s : State) (r : ControlReg) : List Dword :=
  s.control r :: (s.lateControls.filter fun p => p.1 = r).map (·.2)

/-- The value of a control that the PE sees in this step. -/
def State.seenOf (s : State) (r : ControlReg) : Dword :=
  (s.visible r).getD ((s.free64 (.late r)).toNat % (s.visible r).length) (s.control r)

/-- The state with every control as the PE sees it, each register for itself (70 R888). -/
def State.seen (s : State) : State :=
  match s.lateControls with
  | [] => s
  | _ :: _ =>
    { s with
      regs :=
        { bvr := Vector.ofFn fun n => s.seenOf (.bvr (BitVec.ofFin n))
          bcr := Vector.ofFn fun n => s.seenOf (.bcr (BitVec.ofFin n))
          wvr := Vector.ofFn fun n => s.seenOf (.wvr (BitVec.ofFin n))
          wcr := Vector.ofFn fun n => s.seenOf (.wcr (BitVec.ofFin n)) }
      ctl :=
        { s.ctl with
          edscr := merge edscrControls s.ctl.edscr (loHalf (s.seenOf .edscr))
          edscr2 := loHalf (s.seenOf .edscr2)
          edeccr := loHalf (s.seenOf .edeccr)
          edecr := loHalf (s.seenOf .edecr) }
      lock := { s.lock with oslk := (s.seenOf .oslk).getLsbD 0 } }

/-- The bits `mask` of the control `r`, and no bit of another. -/
def bitsOf (r : ControlReg) (mask : Dword) (c : ControlReg) : Dword := if c = r then mask else 0

/-- The bits `mask` of the controls have been written by a step other than a transaction: the PE does not see them as they
were before (20_memory.md R161). -/
def State.settle (s : State) (mask : ControlReg → Dword) : State :=
  { s with lateControls := s.lateControls.map fun p => (p.1, merge (mask p.1) p.2 (s.control p.1)) }

/-! ## Debug state: entry and exit (60_exceptions.md R810, R812) -/

/-- The syndrome of the access `a` for watchpoint `n`; zero where EDHSR is not implemented (44 R510: "a zero value"). -/
def State.syndromeOf (s : State) (n : Index) (a : DataAccess) : Dword :=
  if s.cfg.dbg.edhsr then watchSyndrome s.cfg n (s.lsc n) a else 0

/-- Entry to Debug state for a Halting debug event (60_exceptions.md R810): the one operation by which the PE takes such
an event. Nothing is saved for the return. MA becomes 0, whatever the debugger wrote in Non-debug state (47 R713). -/
def State.enterDebugState (s : State) (r : HaltReason) : State :=
  let hal := { s.hal with halted := true, sdd := s.sddOnEntry, ssLoose := false, resetCatchDue := false }
  State.settle (mask := bitsOf .edscr (dmask 20 20)) { s with
    ctl :=
      { s.ctl with
        edscr := edscrEnterDebug s.ctl.edscr r.status
        edesr :=
          match r.pending with
          | some f => if (edesrFields s.cfg).getLsbD f.bit then edesrSet s.ctl.edesr f false else s.ctl.edesr
          | none => s.ctl.edesr }
    smp := { s.smp with fresh := false }
    hal :=
      match r with
      | .watchpoint n a _ =>
        { hal with
          edwar := a.reported
          edwarAA32 := a.aa32
          edhsr := if s.cfg.dbg.edhsr then s.seen.syndromeOf n a else s.hal.edhsr }
      | _ => { hal with edwar := s.free64 .edwar, edhsr := s.free64 .edhsr, edwarAA32 := false } }

/-- Exit from Debug state (60_exceptions.md R812): the one operation by which the PE leaves it. -/
def State.exitDebugState (s : State) : State :=
  { s with
    ctl := { s.ctl with edscr := edscrWithStatus s.ctl.edscr statusNonDebug }
    sticky := { s.sticky with sdr := true }
    hal :=
      { s.hal with halted := false, edwar := s.free64 .edwar, edhsr := s.free64 .edhsr, edwarAA32 := false } }

end Sys2Proof.Machine
end

