-- ==== Sys2Proof/Machine/Breakpoint.lean ====
section
/-!
DEFINITION. The breakpoint registers DBGBVR<n>_EL1 and DBGBCR<n>_EL1 (40_dbg_auth_breakpoint.md R225 to R251), and what
the source settles of the PE's use of them.
-/

namespace Sys2Proof.Machine

/-! ## Reading the registers -/

/-- DBGBCR<n>_EL1.BT (40 R231). -/
def State.bt (s : State) (n : Index) : BitVec 4 := (s.bcr n).extractLsb' 20 4

/-- The Linked address matching types: BT is 0b0001 or 0b0101 (40 R233). -/
def isLinkedAddress (bt : BitVec 4) : Bool := bt = 0b0001 || bt = 0b0101

/-- The read of DBGBCR<n>_EL1[31:0]: LBN and LBNX are UNKNOWN unless the type is a Linked address matching one
(40 R238); BAS shows ones where it is RES1 (R235). -/
def readBcrLo (n : Index) (s : State) : Word :=
  let c := s.cfg
  let v := readStored c.opt.res0Storage (bcrFields c n &&& ~~~bcrRes1 c (s.bt n)) (bcrRes1 c (s.bt n)) (loHalf (s.bcr n))
  if isLinkedAddress (s.bt n) then v
  else merge (maskAt 16 4 ||| maskIf c.dbg.debugv8p9 (maskAt 30 2)) v (s.free32 .lbn)

/-- The read of DBGBCR<n>_EL1[63:32]: RES0 (10_state.md R52). -/
def readBcrHi (n : Index) (s : State) : Word := readStored s.cfg.opt.res0Storage 0 0 (hiHalf (s.bcr n))

/-- The condition of VMID[15:8]: FEAT_VMID16, VTCR_EL2.VS is 1, and EL2 is not using AArch32 (40 R246). -/
def State.vmid16 (s : State) : Bool := s.cfg.sys.vmid16 && s.pe.vtcrVS && s.pe.el2AA64

/-- The layout DBGBCR<n>_EL1.BT selects for DBGBVR<n>_EL1 (40 R241). -/
def State.bvrLayout (s : State) (n : Index) : BvrLayout := Sys2Proof.Machine.bvrLayout s.cfg (s.bt n)

/-- The read of DBGBVR<n>_EL1 under its layout (40 R250). -/
def readBvrOf (n : Index) (s : State) : Dword := readBvr s.cfg s.vmid16 (s.bvrLayout n) (s.bvr n)

/-! ## Writing the registers -/

/-- The write of DBGBCR<n>_EL1[31:0] (40 R239). -/
def writeBcrLo (n : Index) (d : Word) (s : State) : State :=
  let c := s.cfg
  let lo := writeStored c.opt.res0Storage (bcrFields c n) (~~~bcrFields c n) (loHalf (s.bcr n)) d
  s.setBcr n (setHalf false (s.bcr n) lo)

/-- The write of DBGBCR<n>_EL1[63:32]: RES0, nothing stored (40 R239; with RES0_storage the bits are). -/
def writeBcrHi (n : Index) (d : Word) (s : State) : State :=
  let hi := writeStored s.cfg.opt.res0Storage 0 (BitVec.allOnes 32) (hiHalf (s.bcr n)) d
  s.setBcr n (setHalf true (s.bcr n) hi)

/-- The write of one word of DBGBVR<n>_EL1, subject to the RES0 and RESS bits of the selected layout (40 R251). -/
def writeBvr (n : Index) (hi : Bool) (d : Word) (s : State) : State :=
  s.setBvr n (merge (bvrStored s.cfg s.vmid16 (s.bvrLayout n)) (s.bvr n) (setHalf hi (s.bvr n) d))

/-! ## The meanings -/

/-- A read of a breakpoint register: R232 if breakpoint n is not implemented, else the ladder of R226 and R242. -/
def readBreakpoint (n : Index) (ad : AddrDesc) (s : State) (v : State → Word) : State :=
  if s.cfg.hasBreakpoint n then readValue .guarded .readWrite ad s v else readUnimplemented ad s

/-- A write of a breakpoint register: R232 if breakpoint n is not implemented, else the ladder of R226 and R242. -/
def writeBreakpoint (n : Index) (ad : AddrDesc) (s : State) (w : State → State) : State :=
  if s.cfg.hasBreakpoint n then writeReg .guarded .readWrite ad s w else writeUnimplemented ad s

/-- `RD DBGBVR<n>_EL1[31:0]`: 40 R250. -/
def execRdDbgbvrLo (n : Index) (ad : AddrDesc) (s : State) : Result :=
  .next (readBreakpoint n ad s fun t => loHalf (readBvrOf n t))

/-- `WR DBGBVR<n>_EL1[31:0]`: 40 R251. -/
def execWrDbgbvrLo (n : Index) (d : Word) (ad : AddrDesc) (s : State) : Result :=
  .next (writeBreakpoint n ad s (writeBvr n false d))

/-- `RD DBGBVR<n>_EL1[63:32]`: 40 R250. -/
def execRdDbgbvrHi (n : Index) (ad : AddrDesc) (s : State) : Result :=
  .next (readBreakpoint n ad s fun t => hiHalf (readBvrOf n t))

/-- `WR DBGBVR<n>_EL1[63:32]`: 40 R251. -/
def execWrDbgbvrHi (n : Index) (d : Word) (ad : AddrDesc) (s : State) : Result :=
  .next (writeBreakpoint n ad s (writeBvr n true d))

/-- `RD DBGBCR<n>_EL1[31:0]`: 40 R238. -/
def execRdDbgbcrLo (n : Index) (ad : AddrDesc) (s : State) : Result :=
  .next (readBreakpoint n ad s (readBcrLo n))

/-- `WR DBGBCR<n>_EL1[31:0]`: 40 R239. -/
def execWrDbgbcrLo (n : Index) (d : Word) (ad : AddrDesc) (s : State) : Result :=
  .next (writeBreakpoint n ad s (writeBcrLo n d))

/-- `RD DBGBCR<n>_EL1[63:32]`: 40 R238; without FEAT_Debugv8p9 the offset is reserved (30_encoding.md R190 a). -/
def execRdDbgbcrHi (n : Index) (ad : AddrDesc) (s : State) : Result :=
  .next
    (if s.cfg.hasBreakpoint n && !s.cfg.dbg.debugv8p9 then readReserved ad s
    else readBreakpoint n ad s (readBcrHi n))

/-- `WR DBGBCR<n>_EL1[63:32]`: 40 R239; without FEAT_Debugv8p9 the offset is reserved (30_encoding.md R190 a). -/
def execWrDbgbcrHi (n : Index) (d : Word) (ad : AddrDesc) (s : State) : Result :=
  .next
    (if s.cfg.hasBreakpoint n && !s.cfg.dbg.debugv8p9 then writeReserved ad s
    else writeBreakpoint n ad s (writeBcrHi n d))

/-! ## What the PE makes of a breakpoint -/

/-- HaltOnBreakpointOrWatchpoint() (47 R716). -/
def State.haltOnBreakpointOrWatchpoint (s : State) : Bool := s.env.haltingAllowed && s.hde && !s.osLock

/-- The clause under which the PE treats E as zero for n of 16 and more (40 R237, 41 R331). -/
def State.enableIgnored (s : State) (n : Index) : Bool :=
  s.cfg.dbg.debugv8p9 && decide (16 ≤ n.toNat) &&
    (if s.haltOnBreakpointOrWatchpoint then !s.ehbwe else !s.env.embwe)

/-- EffectiveE(n) (40 R237). -/
def State.effectiveE (s : State) (n : Index) : Bool := !s.enableIgnored n && (s.bcr n).getLsbD 0

/-- The index of the linked breakpoint, LBNX:LBN with FEAT_Debugv8p9, else LBN (40 R227, 30_encoding.md R188). -/
def linkedIndex (c : Config) (ctrl : Dword) : Index :=
  if c.dbg.debugv8p9 then ctrl.extractLsb' 30 2 ++ ctrl.extractLsb' 16 4
  else (ctrl.extractLsb' 16 4).setWidth 6

/-- The breakpoint type {BT2, BT}; BT2 is 0 where it is not a field (40 R231, R236). -/
def State.breakpointType (s : State) (n : Index) : BitVec 5 :=
  BitVec.ofBool (s.cfg.hasBT2 n && (s.bcr n).getLsbD 3) ++ s.bt n

/-- The breakpoint type is defined for breakpoint n: the "Applies when" column of 40 R231, and R236 for BT2. -/
def State.breakpointTypeDefined (s : State) (n : Index) : Bool :=
  let c := s.cfg
  let bt := s.bt n
  let context := c.contextAware n
  let base :=
    match bt.getLsbD 3, bt.getLsbD 2, bt.getLsbD 1 with
    | false, false, false => true
    | false, false, true => context
    | false, true, false => c.dbg.bwe || !s.pe.el1AA64
    | true, false, _ => c.pe.haveEL2 && context
    | false, true, true => c.pe.haveEL2 && c.dbg.debugv8p1 && context
    | true, true, _ => c.pe.haveEL2 && c.dbg.debugv8p1 && context
  let bt2 := (s.breakpointType n).getLsbD 4
  base && (!bt2 || (!bt.getLsbD 3 && !bt.getLsbD 1))

/-- The Context ID register that a BT 0b001x breakpoint compares against (40 R244); CONTEXTIDR has a Secure copy if EL3 is
implemented and using AArch32 (42 R378). -/
def State.comparedContext (s : State) : Word :=
  let p := s.pe
  if p.hcrE2H && (p.el = 2 || (p.hcrTGE && p.el = 0 && p.el2Enabled)) then p.contextEL2
  else if s.usingAA64 then p.context.el1
  else if s.cfg.pe.haveEL3 && !p.el3AA64 && p.ss = .secure then p.context.aa32Secure
  else p.context.aa32NonSecure

/-- The VMID comparison, against VTTBR_EL2.VMID: of 16 bits where VMID[15:8] is a field, else of the low 8, as with EL2 using
AArch32 (40 R231, R246). -/
def State.vmidMatches (s : State) (n : Index) : Bool :=
  let v := (s.bvr n).extractLsb' 32 16
  if s.vmid16 then v = s.pe.vmid
  else v.extractLsb' 0 8 = s.pe.vmid.extractLsb' 0 8

/-- The comparison a context matching breakpoint of a defined type makes (40 R231, R244 to R249); FALSE for the address
types. -/
def State.contextMatches (s : State) (n : Index) : Bool :=
  let lo := loHalf (s.bvr n)
  let hi := hiHalf (s.bvr n)
  match s.bvrLayout n with
  | .contextID => lo = s.comparedContext
  | .contextEL1 => lo = s.pe.context.el1
  | .vmid => s.vmidMatches n
  | .vmidContext => s.vmidMatches n && lo = s.pe.context.el1
  | .contextEL2 => hi = s.pe.contextEL2
  | .fullContext => lo = s.pe.context.el1 && hi = s.pe.contextEL2
  | .address => false
  | .reserved => false

/-! ### The address comparison -/

/-- DBGBCR<n>_EL1.MASK; 0, no mask, where it is not a field (40 R229). -/
def State.breakpointMask (s : State) (n : Index) : BitVec 5 :=
  if s.cfg.dbg.bwe then (s.bcr n).extractLsb' 24 5 else 0

/-- DBGBCR<n>_EL1.BAS; 0b1111 where it is RES1 (40 R235). -/
def State.breakpointBAS (s : State) (n : Index) : BitVec 4 :=
  if !s.cfg.dbg.aa32 || isContextType (s.bt n) then 0b1111 else (s.bcr n).extractLsb' 5 4

/-- The security control {SSCE, SSC, HMC, PMC or PAC} of a control register (30_encoding.md R188). Which Exception levels
and Security states a value selects is not in the source: the agent answers for it (41 R328, notes/assumptions/30.md). -/
def stateControl (c : Config) (ctrl : Dword) : BitVec 6 :=
  BitVec.ofBool (c.sys.rme && ctrl.getLsbD 29) ++ ctrl.extractLsb' 14 2 ++ ctrl.extractLsb' 13 1 ++ ctrl.extractLsb' 1 2

/-- One of the conditions (a) to (c3) of 40 R230 holds, under which the use of MASK is CONSTRAINED UNPREDICTABLE. -/
def State.maskUnsettled (s : State) (n : Index) : Bool :=
  let m := s.breakpointMask n
  let type := s.breakpointType n
  s.cfg.dbg.bwe &&
    (maskReserved m ||
      (m = 0 && (type = 0b00100 || type = 0b00101) && !s.cfg.pe.aa32AtEL1) ||
      (m != 0 && !maskReserved m &&
        ((s.breakpointBAS n != 0b1111 && s.cfg.pe.aa32AtEL0) || (s.bvr n &&& ~~~(3 : Dword) &&& addressMask m) != 0 ||
          (!type.getLsbD 4 && isContextType (s.bt n)))))

/-- The MASK that a register behaves as: its own, or, where that is unsettled, a free choice of any defined value, which
may be 0, and of being disabled (`none`) (40 R230, 41 R324). -/
def State.behavesAsMask (s : State) (k : Nat) (unsettled : Bool) (m : BitVec 5) : Option (BitVec 5) :=
  if !unsettled then some m
  else if s.flip (.maskDisabled k) then none
  else
    let v := (s.free64 (.maskValue k)).setWidth 5
    some (if maskReserved v then 0 else v)

/-- The MASK that breakpoint n behaves as; `none` if it behaves as disabled (40 R230). -/
def State.breakpointMaskUsed (s : State) (n : Index) : Option (BitVec 5) :=
  s.behavesAsMask n.toNat (s.maskUnsettled n) (s.breakpointMask n)

/-- Whether the instruction is at the address that breakpoint n names under BAS and the mask `m` (40 R229, R235); `none`
where the source does not say: a reserved BAS value, with a mask too, a mask with a BAS of one half-word, and the second
half-word under BAS 0b1111 (N11). -/
def State.atBreakpoint (s : State) (n : Index) (m : BitVec 5) (mismatch : Bool) (pc : FetchedAt) : Option Bool :=
  let here := if pc.aa32 then pc.addr &&& dmask 31 0 else pc.addr
  let base := comparedAddress s.cfg pc.aa32 (s.bvr n)
  let bas := s.breakpointBAS n
  if m != 0 then (if bas = 0b1111 then some (agreesUnderMask m here base) else none)
  else if bas = 0b1111 then (if pc.aa32 && here = base + 2 then none else some (here = base))
  else if mismatch && !pc.aa32 then none
  else if bas = 0b0011 then some (here = base)
  else if bas = 0b1100 then some (here = base + 2)
  else if bas = 0b0000 && mismatch then some false
  else none

/-- Whether breakpoint n, taken by itself, matches: a context matching type by its comparison, an address type by the
address of the instruction, inverted for the mismatch types 0b010x (40 R231). `none` where the source, or this block's
knowledge, does not settle it: a type reserved for n, a change of a Context ID register that awaits a context
synchronization event. -/
def State.breakpointMatches (s : State) (n : Index) (pc : FetchedAt) : Option Bool :=
  if !s.cfg.hasBreakpoint n || !s.breakpointTypeDefined n then none
  else
    match s.breakpointMaskUsed n with
    | none => some false
    | some m =>
      if isContextType (s.bt n) then (if s.earlierContexts = [] then some (s.contextMatches n) else none)
      else
        let mismatch := (s.bt n).getLsbD 2
        (s.atBreakpoint n m mismatch pc).map fun b => b != mismatch

/-- Breakpoint n has linking enabled: BT2 is 1, or BT is an odd context matching type (40 R231, R236, 41 R326). -/
def State.linkingEnabled (s : State) (n : Index) : Bool :=
  (s.breakpointType n).getLsbD 4 || (isContextType (s.bt n) && (s.bt n).getLsbD 0)

/-- Whether a link to breakpoint LBNX:LBN lets an event through: that breakpoint matches at the instruction (40 R233,
41 R334). `none` where the number names no enabled breakpoint that has linking enabled: the fields of a disabled one are
ignored (40 R225), one that an unsettled MASK disables (R230) is no other, and the rest is not in the source
(93_implementation_defined.md U54; 91_not_in_source.md N12). -/
def State.linkMatches (s : State) (linked : Bool) (ctrl : Dword) (pc : FetchedAt) : Option Bool :=
  let l := linkedIndex s.cfg ctrl
  if !linked then some true
  else if s.linkingEnabled l && s.effectiveE l && (s.breakpointMaskUsed l).isSome then s.breakpointMatches l pc
  else none

/-- Breakpoint n may halt the PE at the instruction `pc`: it is enabled, the agent answers for its present security
control, and neither its comparison nor that of the breakpoint it links to is known to fail (60 R805; DESIGN CHOICE,
notes/assumptions/30.md). -/
def State.breakpointEnabled (s : State) (n : Index) (pc : FetchedAt) (control : BitVec 6) : Bool :=
  s.cfg.hasBreakpoint n && s.effectiveE n && s.haltOnBreakpointOrWatchpoint && control = stateControl s.cfg (s.bcr n) &&
    s.breakpointMatches n pc != some false &&
    s.linkMatches (isLinkedAddress (s.bt n) && s.breakpointTypeDefined n) (s.bcr n) pc != some false

end Sys2Proof.Machine
end

