-- ==== Sys2Proof/Machine/Dcc.lean ====
section
/-!
DEFINITION. The CLAIM tag registers, the Debug Communication Channel registers DBGDTRRX_EL0 and DBGDTRTX_EL0
(41_dbg_claim_dcc_watchpoint.md R280 to R314) and the Instruction Transfer Register EDITR (44 R532 to R538).
-/

namespace Sys2Proof.Machine

/-! ## CLAIM tags -/

/-- CLAIM written. -/
def State.setClaim (s : State) (v : BitVec 8) : State := { s with dcc := { s.dcc with claim := v } }

/-- `RD DBGCLAIMCLR_EL1`: 41 R283. -/
def execRdDbgclaimclr (ad : AddrDesc) (s : State) : Result :=
  .next (readValue .locked .readWrite ad s fun t => fieldAt 0 t.dcc.claim)

/-- `WR DBGCLAIMCLR_EL1`: 41 R284. -/
def execWrDbgclaimclr (d : Word) (ad : AddrDesc) (s : State) : Result :=
  .next (writeReg .locked .readWrite ad s fun t => t.setClaim (t.dcc.claim &&& ~~~d.setWidth 8))

/-- `RD DBGCLAIMSET_EL1`: 41 R288. -/
def execRdDbgclaimset (ad : AddrDesc) (s : State) : Result :=
  .next (readValue .locked .readWrite ad s fun _ => 0x000000FF)

/-- `WR DBGCLAIMSET_EL1`: 41 R289. -/
def execWrDbgclaimset (d : Word) (ad : AddrDesc) (s : State) : Result :=
  .next (writeReg .locked .readWrite ad s fun t => t.setClaim (t.dcc.claim ||| d.setWidth 8))

/-! ## Memory access mode -/

/-- Memory access mode is in force: EDSCR.MA is ignored in Non-debug state (47 R713, 41 R304). -/
def State.memoryMode (s : State) : Bool := s.hal.halted && s.ma

/-- The flags a Memory access mode operation may change: RXfull, TXfull, ITO, RXO, TXU, ITE, ERR. -/
def memoryModeFlags : Word := maskAt 26 5 ||| maskAt 24 1 ||| maskAt 6 1

/-- What a DTR access does in Memory access mode beyond completing, and each step of the load or store that it makes the PE
execute: "a model must leave the additional effects on ... DTRRX, DTRTX and the flags unconstrained" (41 R304, N22). The load
or store may finish within the access, or later; a word that waits in ITR is still the one to execute, and the word in ITR is
not touched (20_memory.md R172; DESIGN CHOICE, notes/assumptions/21.md). -/
def State.memoryModeEffects (s : State) : State :=
  { s with
    dcc :=
      { s.dcc with
        dtrrx := s.free32 .dtrrx, dtrtx := s.free32 .dtrtx, memoryOp := s.dcc.memoryOp || s.ite }
    ctl := { s.ctl with edscr := merge memoryModeFlags s.ctl.edscr (s.free32 .flags) } }

/-- What a write of EDITR does in Memory access mode, which is outside the rules (44 R535, N22): the effects of a DTR access,
and ITR at any value; no word waits in ITR afterwards (DESIGN CHOICE, notes/assumptions/21.md). -/
def State.memoryModeItr (s : State) : State :=
  let t := s.memoryModeEffects
  { t with dcc := { t.dcc with itr := s.free32 .itr, memoryOp := true } }

/-! ## The data transfer registers -/

/-- A DTR access has no effect while EDSCR.ERR is 1: DTR_access_when_ERR is no_side_effects (41 R305). -/
def State.dtrBlocked (s : State) : Bool := s.err && !s.cfg.opt.dtrErrAsWritten

/-- The accepted or overrunning write of DTRRX in Normal access mode (41 R302). -/
def writeRx (d : Word) (s : State) : State :=
  if s.memoryMode then s.memoryModeEffects
  else if s.dtrBlocked then s
  else if s.rxfull then s.mapEdscr edscrRxOverrun
  else { s.mapEdscr edscrRxAccepted with dcc := { s.dcc with dtrrx := d } }

/-- `WR DBGDTRRX_EL0`: 41 R302. -/
def execWrDbgdtrrx (d : Word) (ad : AddrDesc) (s : State) : Result :=
  .next (writeReg .locked .readWrite ad s (writeRx d))

/-- `RD DBGDTRRX_EL0`: 41 R303. -/
def execRdDbgdtrrx (ad : AddrDesc) (s : State) : Result :=
  .next
    (readReg .locked .readWrite ad s fun t =>
      if t.memoryMode && !t.softLock ad then t.memoryModeEffects.okRead (t.free32 .readWord)
      else t.okRead t.dcc.dtrrx)

/-- The value a read of DTRTX returns: DTRTX if TXfull is 1, else UNKNOWN (41 R312). -/
def State.txValue (s : State) : Word := if s.txfull then s.dcc.dtrtx else s.free32 .readWord

/-- The flags after a read of DTRTX in Normal access mode (41 R312, R305). -/
def readTxFlags (s : State) : State :=
  if s.dtrBlocked then s
  else if s.txfull then s.mapEdscr edscrTxTaken
  else s.mapEdscr edscrTxUnderrun

/-- `RD DBGDTRTX_EL0`: 41 R312. -/
def execRdDbgdtrtx (ad : AddrDesc) (s : State) : Result :=
  .next
    (readReg .guarded .readWrite ad s fun t =>
      if t.softLock ad then t.okRead t.txValue
      else if t.memoryMode then t.memoryModeEffects.okRead (t.free32 .readWord)
      else (readTxFlags t).okRead t.txValue)

/-- `WR DBGDTRTX_EL0`: 41 R313. -/
def execWrDbgdtrtx (d : Word) (ad : AddrDesc) (s : State) : Result :=
  .next
    (writeReg .guarded .readWrite ad s fun t =>
      if t.memoryMode then t.memoryModeEffects else { t with dcc := { t.dcc with dtrtx := d } })

/-! ## The instruction transfer register -/

/-- The instruction in EDITR, in the format of the PE's Execution state (44 R534): one A64 instruction, or T32 halfwords,
hw1 in bits [15:0] first. -/
def State.itrInstruction (s : State) : ItrInstruction :=
  if s.usingAA64 then .a64 s.dcc.itr else .t32 (s.dcc.itr.extractLsb' 0 16) (s.dcc.itr.extractLsb' 16 16)

/-- The write of EDITR once the ladder admits it (44 R535). -/
def writeItr (d : Word) (s : State) : State :=
  if !s.hal.halted then s
  else if s.ma then s.memoryModeItr
  else if s.err then s
  else if s.ite then { s.mapEdscr edscrItrAccepted with dcc := { s.dcc with itr := d, memoryOp := false } }
  else s.mapEdscr edscrItrOverrun

/-- `WR EDITR`: 44 R535. -/
def execWrEditr (d : Word) (ad : AddrDesc) (s : State) : Result :=
  .next (writeReg .locked .writeOnly ad s (writeItr d))

/-- `RD EDITR`: 44 R537. The register is WO: the read returns UNKNOWN and does not show ITR. -/
def execRdEditr (ad : AddrDesc) (s : State) : Result :=
  .next (readReg .locked .writeOnly ad s fun t => t.okRead (t.free32 .readWord))

end Sys2Proof.Machine
end

