-- ==== Sys2Proof/Machine/Event.lean ====
section
/-!
DEFINITION. Event control: EDECCR, EDECR, EDESR, EDHSR, EDITCTRL (44_ed_event_control.md R470 to R530), EDACR (42 R360 to
R364) and EDWAR (47 R760 to R763).
-/

namespace Sys2Proof.Machine

/-! ## EDECCR -/

/-- The read value of EDECCR (44 R478). -/
def edeccrValue (s : State) : Word := readStored s.cfg.opt.res0Storage (edeccrFields s.cfg) 0 s.ctl.edeccr

/-- The fields of `d` stored in EDECCR (44 R479). -/
def writeEdeccrFields (d : Word) (s : State) : State :=
  { s with
    ctl :=
      { s.ctl with
        edeccr :=
          writeStored s.cfg.opt.res0Storage (edeccrFields s.cfg) (~~~edeccrFields s.cfg) s.ctl.edeccr d } }

/-- `RD EDECCR`: 44 R478. -/
def execRdEdeccr (ad : AddrDesc) (s : State) : Result := .next (readValue .locked .readWrite ad s edeccrValue)

/-- `WR EDECCR`: 44 R479. -/
def execWrEdeccr (d : Word) (ad : AddrDesc) (s : State) : Result :=
  .next (writeReg .locked .readWrite ad s (writeEdeccrFields d))

/-! ## EDECR -/

/-- The read value of EDECR (44 R487). With the Core off, TRBE, TRCE and PME, which are in the Core power domain, are
not stated (N30): free. -/
def edecrValue (s : State) : Word :=
  let v := readStored s.cfg.opt.res0Storage (edecrFields s.cfg) 0 s.ctl.edecr
  if s.powered then v else merge (edecrCoreFields s.cfg) v (s.free32 .edecr)

/-- The fields of `d` stored in EDECR (44 R488); a change of SS in Non-debug state is remembered (44 R485). -/
def writeEdecrFields (d : Word) (s : State) : State :=
  let new := writeStored s.cfg.opt.res0Storage (edecrFields s.cfg) (~~~edecrFields s.cfg) s.ctl.edecr d
  { s with
    ctl := { s.ctl with edecr := new }
    hal := { s.hal with ssLoose := s.hal.ssLoose || (!s.hal.halted && (s.ctl.edecr.getLsbD 2 != d.getLsbD 2)) } }

/-- `RD EDECR`: 44 R487. -/
def execRdEdecr (ad : AddrDesc) (s : State) : Result := .next (readValue .coreOff .readWrite ad s edecrValue)

/-- `WR EDECR`: 44 R488. -/
def execWrEdecr (d : Word) (ad : AddrDesc) (s : State) : Result :=
  .next (writeReg .coreOff .readWrite ad s (writeEdecrFields d))

/-! ## EDESR -/

/-- The read value of EDESR (44 R501). -/
def edesrValue (s : State) : Word := readStored s.cfg.opt.res0Storage (edesrFields s.cfg) 0 s.ctl.edesr

/-- A write of EDESR: a 1 clears its pending event, a 0 means no action (44 R502). -/
def writeEdesrBits (d : Word) (s : State) : State :=
  s.mapEdesr fun w =>
    merge (maskIf s.cfg.opt.res0Storage (~~~edesrFields s.cfg)) (w &&& ~~~(d &&& edesrFields s.cfg)) d

/-- `RD EDESR`: 44 R501. -/
def execRdEdesr (ad : AddrDesc) (s : State) : Result := .next (readValue .core .readWrite ad s edesrValue)

/-- `WR EDESR`: 44 R502. -/
def execWrEdesr (d : Word) (ad : AddrDesc) (s : State) : Result :=
  .next (writeReg .core .readWrite ad s (writeEdesrBits d))

/-! ## EDHSR and EDWAR -/

/-- The PE is in Debug state for a Watchpoint debug event: the only state in which EDHSR and EDWAR hold a value
(44 R510, 47 R760). -/
def State.haltedByWatchpoint (s : State) : Bool := s.hal.halted && s.status = statusWatchpoint

/-- The value of EDHSR (44 R520); where WPTV is 0, WPT "holds an UNKNOWN value" (R513), drawn at each read
(93_implementation_defined.md U34). -/
def edhsrValue (s : State) : Dword :=
  if !s.haltedByWatchpoint then s.free64 .readWord
  else if s.hal.edhsr.getLsbD 17 then s.hal.edhsr
  else merge (dmask 23 18) s.hal.edhsr (s.free64 .readWord)

/-- EDHSR.FnV, 0 where EDHSR is not implemented (44 R517). -/
def State.fnv (s : State) : Bool := s.cfg.dbg.edhsr && s.hal.edhsr.getLsbD 10

/-- The value of EDWAR (47 R762). -/
def edwarValue (s : State) : Dword :=
  if s.haltedByWatchpoint && !s.fnv then
    if s.hal.edwarAA32 then setHalf true s.hal.edwar (s.free32 .readWord) else s.hal.edwar
  else s.free64 .readWord

/-- A read of one word of EDHSR (44 R520). -/
def readEdhsr (hi : Bool) (ad : AddrDesc) (s : State) : State :=
  if s.cfg.dbg.edhsr then readValue .locked .readOnly ad s fun t => halfOf hi (edhsrValue t)
  else readNotPresent ad s

/-- A write of one word of EDHSR (44 R521): the data is discarded. -/
def writeEdhsr (ad : AddrDesc) (s : State) : State :=
  if s.cfg.dbg.edhsr then writeReg .locked .readOnly ad s id else writeNotPresent ad s

/-- `RD EDHSR[31:0]`: 44 R520. -/
def execRdEdhsrLo (ad : AddrDesc) (s : State) : Result := .next (readEdhsr false ad s)

/-- `WR EDHSR[31:0]`: 44 R521. -/
def execWrEdhsrLo (_d : Word) (ad : AddrDesc) (s : State) : Result := .next (writeEdhsr ad s)

/-- `RD EDHSR[63:32]`: 44 R520. -/
def execRdEdhsrHi (ad : AddrDesc) (s : State) : Result := .next (readEdhsr true ad s)

/-- `WR EDHSR[63:32]`: 44 R521. -/
def execWrEdhsrHi (_d : Word) (ad : AddrDesc) (s : State) : Result := .next (writeEdhsr ad s)

/-- `RD EDWAR[31:0]`: 47 R762. -/
def execRdEdwarLo (ad : AddrDesc) (s : State) : Result :=
  .next (readValue .locked .readOnly ad s fun t => loHalf (edwarValue t))

/-- `WR EDWAR[31:0]`: 47 R762. The data is discarded. -/
def execWrEdwarLo (_d : Word) (ad : AddrDesc) (s : State) : Result := .next (writeReg .locked .readOnly ad s id)

/-- `RD EDWAR[63:32]`: 47 R762. -/
def execRdEdwarHi (ad : AddrDesc) (s : State) : Result :=
  .next (readValue .locked .readOnly ad s fun t => hiHalf (edwarValue t))

/-- `WR EDWAR[63:32]`: 47 R762. The data is discarded. -/
def execWrEdwarHi (_d : Word) (ad : AddrDesc) (s : State) : Result := .next (writeReg .locked .readOnly ad s id)

/-! ## EDITCTRL -/

/-- The read value of EDITCTRL (44 R529). -/
def editctrlValue (s : State) : Word := readStored s.cfg.opt.res0Storage 1 0 s.ctl.editctrl

/-- `RD EDITCTRL`: 44 R529; not implemented, 30_encoding.md R190 b. -/
def execRdEditctrl (ad : AddrDesc) (s : State) : Result :=
  .next
    (if s.cfg.has.editctrl then
      readBy (ladderImpdefRW s ad .editctrl) .coreOff ad s fun t => t.okRead (editctrlValue t)
    else readReserved ad s)

/-- `WR EDITCTRL`: 44 R530; not implemented, 30_encoding.md R190 b. -/
def execWrEditctrl (d : Word) (ad : AddrDesc) (s : State) : Result :=
  .next
    (if s.cfg.has.editctrl then
      writeBy (ladderImpdefRW s ad .editctrl) .coreOff ad s fun t =>
        { t with
          ctl := { t.ctl with editctrl := writeStored t.cfg.opt.res0Storage 1 (~~~1) t.ctl.editctrl d } }
    else writeReserved ad s)

/-! ## EDACR -/

/-- A read of EDACR: by its ladder; but where the access must reach bits that are preserved over power down, it completes
and shows these, and the ladder's IMPDEF_access says what it shows of the others (42 R360, R361; DEDUCED,
notes/assumptions/56.md). -/
def readEdacr (ad : AddrDesc) (s : State) : State :=
  let r := ladderImpdefRW s ad .edacr
  let reached := s.acrAccessible ad
  if reached = 0 then readBy r .coreOff ad s fun t => t.okRead t.ctl.edacr
  else s.okRead (merge reached (if readShows r then s.ctl.edacr else s.free32 .readWord) s.ctl.edacr)

/-- A write of EDACR: by its ladder; but where the access must reach bits that are preserved over power down, it completes
and stores these, and the ladder's IMPDEF_access says whether it stores the others (42 R360, R361; DEDUCED,
notes/assumptions/56.md). -/
def writeEdacr (d : Word) (ad : AddrDesc) (s : State) : State :=
  let r := ladderImpdefRW s ad .edacr
  let reached := s.acrAccessible ad
  if reached = 0 then writeBy r .coreOff ad s fun t => { t with ctl := { t.ctl with edacr := d } }
  else
    State.okWrite { s with ctl := { s.ctl with edacr := merge reached (if writeStores r then d else s.ctl.edacr) d } }

/-- `RD EDACR`: 42 R363; not implemented, 30_encoding.md R190 b. -/
def execRdEdacr (ad : AddrDesc) (s : State) : Result :=
  .next (if s.cfg.has.edacr then readEdacr ad s else readReserved ad s)

/-- `WR EDACR`: 42 R364; not implemented, 30_encoding.md R190 b. -/
def execWrEdacr (d : Word) (ad : AddrDesc) (s : State) : Result :=
  .next (if s.cfg.has.edacr then writeEdacr d ad s else writeReserved ad s)

end Sys2Proof.Machine
end

