-- ==== Sys2Proof/Machine/Resets.lean ====
section
/-!
DEFINITION. The steps of the reset and power controller (70_reset_and_hazards.md R860 to R866; 60_exceptions.md R830, R844;
46 R626, R632). A field with no entry for a reset is unchanged by it (00_scope.md R16).
-/

namespace Sys2Proof.Machine

/-- The Cold reset value of EDPRCR.CORENPDRQ (46 R626). -/
def State.corenpdrqResetValue (s : State) : Bool :=
  if s.cfg.dbg.doPD then s.env.powerupRequest && s.cfg.opt.corenpdrqReset else s.corepurq

/-- EDESR after the Warm entries (44 R503 a): EC and OSUC 0, RC its enable, SS the Halting step enable without
FEAT_DoPD. -/
def State.edesrAfterWarm (s : State) : Word :=
  let w := if s.cfg.dbg.debugv8p8 then edesrSet s.ctl.edesr .ec false else s.ctl.edesr
  let w := edesrSet w .osuc false
  let w := edesrSet w .rc (if s.cfg.dbg.doPD then s.env.ctiRCE else s.rce)
  if s.cfg.dbg.doPD then w else edesrSet w .ss s.stepEnable

/-- warm_reset_entries() (70 R862). The source does not say whether a reset taken in reset state enters that state anew
(R864): the OS Double Lock counts as locked at the entry if it was at the first one or is at this one (DEDUCED,
notes/assumptions/25.md). What the debugger wrote before is no longer seen late (notes/assumptions/52.md). -/
def State.warmEntries (s : State) : State :=
  { s with
    ctl :=
      { s.ctl with
        edesr := s.edesrAfterWarm
        edscr := setBit s.ctl.edscr 25 ((s.free32 .pipeAdv).getLsbD 0) }
    smp := { s.smp with fresh := false, first := false }
    hal := { s.hal with edhsr := if s.cfg.dbg.edhsr then s.free64 .edhsr else s.hal.edhsr, resetCatchDue := false }
    sticky := { s.sticky with sdr := (s.free32 .sdr).getLsbD 0, sr := true }
    power :=
      { s.power with
        inReset := true
        resetWithDoubleLock := (s.power.inReset && s.power.resetWithDoubleLock) || s.doubleLock
        warmResetRequest := false }
    lateControls := [] }

/-- `warm_reset` (70 R862). -/
def State.warmReset (s : State) : State :=
  (if s.hal.halted then s.exitDebugState else s).warmEntries

/-- EDSCR after the Cold entries: TFO, RXfull, TXfull, RXO, TXU, INTdis, TDA, MA, SC2, HDE, ERR 0, STATUS 0b000010, ITO and
ITE UNKNOWN (70 R861). -/
def State.edscrAfterCold (s : State) : Word :=
  let cleared :=
    edscrWritable s.cfg ||| maskAt 29 2 ||| maskAt 26 2 ||| maskAt 6 1 ||| maskAt 0 6
  let w := s.ctl.edscr &&& ~~~cleared
  let w := merge (maskAt 28 1 ||| maskAt 24 1) w (s.free32 .flags)
  edscrWithStatus w statusNonDebug

/-- The Cold entries (70 R861, R866). Of the breakpoint and watchpoint registers they make the stored fields UNKNOWN, and
leave the reserved bits, which RES0_storage may hold, as they are (notes/assumptions/10.md), after a power-down of the Core
too (notes/assumptions/54.md). -/
def State.coldEntries (s : State) : State :=
  let c := s.cfg
  let acr := if c.has.edacr && c.has.edacrDomain = .core then s.free32 .edacr else s.ctl.edacr
  { s with
    regs :=
      { bvr := Vector.ofFn fun n => merge (bvrFieldsOfAnyLayout c) s.regs.bvr[n] (s.free64 (.bvr n))
        bcr := Vector.ofFn fun n =>
          merge ((bcrFields c (BitVec.ofFin n)).setWidth 64) s.regs.bcr[n] (s.free64 (.bcr n))
        wvr := Vector.ofFn fun n => merge (wvrFields c) s.regs.wvr[n] (s.free64 (.wvr n))
        wcr := Vector.ofFn fun n => merge ((wcrFields c).setWidth 64) s.regs.wcr[n] (s.free64 (.wcr n)) }
    dcc := { claim := 0, dtrrx := s.free32 .dtrrx, dtrtx := s.free32 .dtrtx, itr := s.free32 .itr, memoryOp := false }
    ctl :=
      { s.ctl with
        edscr := s.edscrAfterCold
        edscr2 := s.ctl.edscr2 &&& ~~~edscr2Fields c
        edeccr := s.ctl.edeccr &&& ~~~edeccrFields c
        edecr := s.ctl.edecr &&& ~~~(edecrCoreFields c ||| maskIf c.dbg.doPD (maskAt 2 1))
        edesr := if c.dbg.doPD then edesrSet s.ctl.edesr .ss false else s.ctl.edesr
        editctrl :=
          if c.has.editctrlDomain = .core then setBit s.ctl.editctrl 0 false else s.ctl.editctrl
        edprcr := setBit s.ctl.edprcr 0 s.corenpdrqResetValue
        edacr := acr }
    smp := { pcsrHi := s.free32 .pcsrHi, cidsr := s.free32 .cidsr, vidsr := s.free32 .vidsr, fresh := false, first := false }
    hal := { s.hal with halted := false, edwar := s.free64 .edwar, edwarAA32 := false, imprecise := false, ssLoose := false }
    sticky := { s.sticky with stad := false, spmad := false, sdad := false, spd := true }
    lock := { s.lock with oslk := c.opt.oslkColdReset }
    acrReset := if c.has.edacr && c.has.edacrDomain = .core then acr else s.acrReset }

/-- `cold_reset`: the Cold entries, then the Warm entries (70 R861, D30). -/
def State.coldReset (s : State) : State := s.coldEntries.warmEntries

/-- `external_debug_reset` (70 R863): with FEAT_DoPD, no effect. Clearing EDECR.SS in Non-debug state is a change of it
there, and is remembered (44 R485; DEDUCED, notes/assumptions/37.md). -/
def State.externalDebugReset (s : State) : State :=
  let c := s.cfg
  if c.dbg.doPD then s
  else
    let acr := if c.has.edacr && c.has.edacrDomain = .debug then s.free32 .edacr else s.ctl.edacr
    State.settle (mask := bitsOf .edecr (dmask 2 0)) { s with
      ctl :=
        { s.ctl with
          edecr := s.ctl.edecr &&& ~~~maskAt 0 3
          edprcr := setBit s.ctl.edprcr 3 false
          edacr := acr
          editctrl := if c.has.editctrlDomain = .debug then setBit s.ctl.editctrl 0 false else s.ctl.editctrl }
      hal := { s.hal with ssLoose := s.hal.ssLoose || (!s.hal.halted && s.stepEnable) }
      lock := { s.lock with slk := if c.hasSoftwareLock then true else s.lock.slk }
      acrReset := if c.has.edacr && c.has.edacrDomain = .debug then acr else s.acrReset }

/-- `pe_leave_reset` (70 R864): enabled while PE.InReset. With a Reset Catch pending and halting allowed the PE is to halt
before it executes anything (70 R865). -/
def State.leaveReset (s : State) : State :=
  if s.power.inReset then
    { s with
      power := { s.power with inReset := false }
      smp := { s.smp with first := true }
      hal := { s.hal with resetCatchDue := s.isPending .rc && s.env.haltingAllowed } }
  else s

/-- `power_down_core`: forbidden while COREPURQ or CORENPDRQ is 1 (46 R632); pending Halting debug events are lost
(60_exceptions.md R806). An External Debug Request stays pending, and reserved bits that are stored stay as they are: the
source settles neither (DESIGN CHOICE, notes/assumptions/54.md). -/
def State.powerDownCore (s : State) : State :=
  if s.power.core != .off && !s.corepurq && !s.corenpdrq then
    { s with
      power := { s.power with core := .off }
      ctl := { s.ctl with edesr := s.ctl.edesr &&& ~~~edesrFields s.cfg } }
  else s

/-- `power_up_core`: power-up of the Core domain is a Cold reset of the Core-domain state (60_exceptions.md R830). -/
def State.powerUpCore (s : State) : State :=
  if s.power.core = .off then { s with power := { s.power with core := .powered } }.coldReset else s

/-- Entry to the software-visible retention state (60_exceptions.md R844). Whether COREPURQ or CORENPDRQ forbids it is not in
the source: it does not (DESIGN CHOICE, notes/assumptions/54.md). -/
def State.enterRetention (s : State) : State :=
  if s.power.core = .powered then { s with power := { s.power with core := .retention } } else s

/-- Exit from the retention state: it is IMPLEMENTATION DEFINED whether CORENPDRQ is reset (46 R626), and whether SPD is set
(93_implementation_defined.md U16; notes/assumptions/15.md). -/
def State.leaveRetention (s : State) : State :=
  if s.power.core = .retention then
    { s with
      power := { s.power with core := .powered }
      ctl :=
        { s.ctl with
          edprcr :=
            if s.cfg.opt.corenpdrqRetentionReset then setBit s.ctl.edprcr 0 s.corenpdrqResetValue
            else s.ctl.edprcr }
      sticky := { s.sticky with spd := s.sticky.spd || s.cfg.opt.spdSetByRetention } }
  else s

end Sys2Proof.Machine
end

