-- ==== Sys2Proof/Machine/Sample.lean ====
section
/-!
DEFINITION. PC Sample-based profiling: EDPCSR (45_ed_lock_pcsr_pfr_pidr.md R566 to R573), EDCIDSR (42 R376 to R380) and
EDVIDSR (47 R753 to R759).
-/

namespace Sys2Proof.Machine

/-! ## What a sample holds -/

/-- The NS bit of a Security state: {NSE, NS} of 47 R715. A sample shows it for every Security state, and without EL3
(47 R755; DEDUCED, notes/assumptions/46.md). -/
def SecState.nsBit : SecState → Bool
  | .nonSecure => true
  | .secure => false
  | .realm => true
  | .root => false

/-- The NSE bit of a Security state (47 R715). -/
def SecState.nseBit : SecState → Bool
  | .nonSecure => false
  | .secure => false
  | .realm => true
  | .root => true

/-- One Context ID out of a set of registers (42 R378). -/
def State.contextOf (s : State) (c : ContextIds) : Word :=
  if s.pe.el1AA64 then c.el1
  else if s.cfg.pe.haveEL3 && !s.pe.el3AA64 && s.pe.ss = .secure then c.aa32Secure
  else c.aa32NonSecure

/-- The Context ID sampled: the present value, or, until the next context synchronization event, one that the register
held before (42 R378: "it is CONSTRAINED UNPREDICTABLE whether EDCIDSR is set to the original or new value"). -/
def State.contextSample (s : State) : Word :=
  let all := s.pe.context :: s.earlierContexts
  let k := (s.free64 .sampleContext).toNat % all.length
  s.contextOf (all.getD k s.pe.context)

/-- vmid_sample (47 R756). -/
def State.vmidSample (s : State) : BitVec 16 :=
  if !s.cfg.pe.haveEL2 || s.pe.ss = .secure || s.pe.el = 2 then 0
  else if s.pe.el2AA64 then
    if s.cfg.sys.vmid16 && s.pe.vtcrVS then s.pe.vmid else s.pe.vmid &&& 0x00FF
  else s.pe.vmid32.setWidth 16

/-- The second format is selected: FEAT_Debugv8p1 and EDSCR.SC2 is 1 (45 R570, 47 R754). -/
def State.sampleFormat2 (s : State) : Bool := s.cfg.dbg.debugv8p1 && s.sc2

/-- EDVIDSR.HV: 0 only if bits [63:32] of the sample are zero, and 1 in any case it likes (45 R571). -/
def State.sampleHV (s : State) : Bool := hiHalf s.sampleAddr != 0 || s.flip .sampleHV

/-- EDPCSR[63:32] of a sample (45 R571). -/
def State.pcsrHiSample (s : State) : Word :=
  if s.sampleFormat2 then
    bitAt 31 (SecState.nsBit s.pe.ss) ||| fieldAt 29 s.pe.el ||| (hiHalf s.sampleAddr &&& 0x00FFFFFF)
  else if s.sampleHV then hiHalf s.sampleAddr
  else 0

/-- EDVIDSR of a sample (47 R755 to R757). -/
def State.vidsrSample (s : State) : Word :=
  if s.sampleFormat2 then
    if s.pe.el != 3 && s.pe.el2AA64 && s.pe.el2Enabled then s.pe.contextEL2 else s.free32 .vidsr
  else
    bitAt 31 (SecState.nsBit s.pe.ss) ||| bitAt 30 (s.cfg.pe.haveEL2 && s.pe.el = 2) |||
      bitAt 29 (s.cfg.pe.haveEL3 && s.cfg.dbg.aa64 && s.pe.el = 3 && s.pe.el3AA64) ||| bitAt 28 s.sampleHV |||
      fieldAt 0 s.vmidSample

/-! ## The read of EDPCSR[31:0] -/

/-- What a read of EDPCSR[31:0] returns, and whether it is a sample (45 R568, R571). -/
def State.pcsrRead (s : State) : Word × Bool :=
  if s.hal.halted || s.env.pcSampleProhibited then (0xFFFFFFFF, false)
  else if s.power.inReset || !s.smp.fresh then (s.free32 .pcsrLo, false)
  else if s.smp.first && s.flip .pcsrFirst then (0xFFFFFFFF, false)
  else (loHalf s.sampleAddr, true)

/-- The sample registers after a read of EDPCSR[31:0]: a locked memory-mapped read leaves EDPCSR[63:32], EDCIDSR and
EDVIDSR unchanged; the two flags are cleared either way (45 R571, D31). -/
def State.takeSample (s : State) (ad : AddrDesc) : SampleRegs :=
  let flags := { s.smp with fresh := false, first := false }
  if s.softLock ad then flags
  else if s.pcsrRead.2 then
    { flags with pcsrHi := s.pcsrHiSample, cidsr := s.contextSample, vidsr := s.vidsrSample }
  else { flags with pcsrHi := s.free32 .pcsrHi, cidsr := s.free32 .cidsr, vidsr := s.free32 .vidsr }

/-! ## The meanings -/

/-- A read of a register of the extension, which is absent unless `present` (42 R381). -/
def readSampleReg (present : Bool) (v : State → Word) (ad : AddrDesc) (s : State) : State :=
  if present then readValue .locked .readOnly ad s v else readNotPresent ad s

/-- A write of a register of the extension: the data is discarded (42 R380, 45 R573, 47 R759). -/
def writeSampleReg (present : Bool) (ad : AddrDesc) (s : State) : State :=
  if present then writeReg .locked .readOnly ad s id else writeNotPresent ad s

/-- `RD EDPCSR[31:0]`: 45 R571. -/
def execRdEdpcsrLo (ad : AddrDesc) (s : State) : Result :=
  .next
    (if s.cfg.hasPcsr then
      readReg .locked .readOnly ad s fun t => { t with smp := t.takeSample ad, response := .okRead t.pcsrRead.1 }
    else readNotPresent ad s)

/-- `WR EDPCSR[31:0]`: 45 R573. -/
def execWrEdpcsrLo (_d : Word) (ad : AddrDesc) (s : State) : Result := .next (writeSampleReg s.cfg.hasPcsr ad s)

/-- `RD EDPCSR[63:32]`: 45 R572. -/
def execRdEdpcsrHi (ad : AddrDesc) (s : State) : Result :=
  .next (readSampleReg s.cfg.hasPcsr (fun t => t.smp.pcsrHi) ad s)

/-- `WR EDPCSR[63:32]`: 45 R573. -/
def execWrEdpcsrHi (_d : Word) (ad : AddrDesc) (s : State) : Result := .next (writeSampleReg s.cfg.hasPcsr ad s)

/-- `RD EDCIDSR`: 42 R379. -/
def execRdEdcidsr (ad : AddrDesc) (s : State) : Result :=
  .next (readSampleReg s.cfg.hasPcsr (fun t => t.smp.cidsr) ad s)

/-- `WR EDCIDSR`: 42 R380. -/
def execWrEdcidsr (_d : Word) (ad : AddrDesc) (s : State) : Result := .next (writeSampleReg s.cfg.hasPcsr ad s)

/-- `RD EDVIDSR`: 47 R759. -/
def execRdEdvidsr (ad : AddrDesc) (s : State) : Result :=
  .next (readSampleReg s.cfg.hasVidsr (fun t => t.smp.vidsr) ad s)

/-- `WR EDVIDSR`: 47 R759. -/
def execWrEdvidsr (_d : Word) (ad : AddrDesc) (s : State) : Result := .next (writeSampleReg s.cfg.hasVidsr ad s)

end Sys2Proof.Machine
end

