-- ==== Sys2Proof/Machine/Status.lean ====
section
/-!
DEFINITION. Status and control: EDSCR (47_ed_status_control.md R690 to R747) and EDSCR2 (47 R748 to R752).
-/

namespace Sys2Proof.Machine

/-! ## The fields of EDSCR that report the PE -/

/-- EDSCR.SDD (47 R717): the latched bit in Debug state; in Non-debug state the inverse of the authentication predicate,
of which a change may show late (20_memory.md R162), with FEAT_RME too (notes/assumptions/32.md). -/
def State.sddValue (s : State) : Bool :=
  if !s.cfg.sys.rme && !s.cfg.pe.haveEL3 && !s.cfg.pe.secureImpl then true
  else if s.hal.halted then s.hal.sdd
  else if s.cfg.sys.rme then !s.authSeen.rootInvasive
  else !s.authSeen.secureInvasive

/-- EDSCR.RW in Debug state (47 R735); the bits the source leaves as x are free. For a view in which an Exception level uses
AArch64 below one that uses AArch32 the rows and the sentence "Bit [10+k] is 1 iff ELk is using AArch64" disagree, as for EL0
using AArch64 while EL1 is using AArch32, or no row holds: EL1 is looked at first, then EL2, then EL3, and EL0 only where EL1
is using AArch64 (DESIGN CHOICE, notes/assumptions/33.md). -/
def State.rwValue (s : State) : BitVec 4 :=
  let p := s.pe
  let x := (s.free64 .edscrView).extractLsb' 10 4
  let el2On := s.cfg.pe.haveEL2 && p.el2Enabled
  if !s.cfg.dbg.aa32 then 0b1111
  else if !p.el1AA64 && !(el2On && p.el2AA64) && !(s.cfg.pe.haveEL3 && p.el3AA64) then x &&& 0b0111
  else if !p.el1AA64 && !(el2On && p.el2AA64) then 0b1000 ||| (x &&& 0b0011)
  else if !p.el1AA64 then 0b1100 ||| (x &&& 0b0001)
  else if p.el = 0 && !p.el0AA64 then 0b1110
  else 0b1111

/-- EDSCR.A in Debug state (47 R737). -/
def State.errorPending (s : State) : Bool :=
  let p := s.pe
  if p.el2Enabled && (p.el = 0 || p.el = 1) && !p.hcrTGE &&
      (p.hcrAMO || (s.cfg.sys.doubleFault2 && p.hcrxTMEA)) then p.virtualSError
  else if s.cfg.sys.e3dse && p.el != 3 && p.scrEnDSE then p.delegatedSError
  else p.physicalSError

/-- INTdis holds a reserved value: variant (c) without support for 0b01 and 0b10 (47 R711). -/
def State.intdisReserved (s : State) : Bool :=
  !(s.cfg.sys.rme || s.cfg.dbg.debugv8p4) && !s.cfg.opt.intdisTwoBit && (s.intdis = 0b01 || s.intdis = 0b10)

/-- The positions of EDSCR that are read from storage whatever the PE's state: TFO, RXfull, TXfull, RXO, TXU, PipeAdv,
INTdis, TDA, MA, SC2, HDE, ERR, STATUS (47 R745). -/
def edscrStoredRead (c : Config) : Word :=
  edscrWritable c ||| maskAt 29 2 ||| maskAt 25 3 ||| maskAt 6 1 ||| maskAt 0 6

/-- The read value of EDSCR (47 R745). -/
def edscrValue (s : State) : Word :=
  let c := s.cfg
  let h := s.hal.halted
  let u := s.free32 .edscrView
  let stored := s.ctl.edscr &&& (edscrStoredRead c ||| maskIf c.opt.res0Storage (edscrReserved c))
  let stored := if s.intdisReserved then merge (maskAt 22 2) stored u else stored
  stored |||
  bitAt 28 (if h then s.ito else u.getLsbD 28) |||
  bitAt 24 (if h then s.ite else u.getLsbD 24) |||
  bitAt 18 (if h then SecState.nsBit s.pe.ss else u.getLsbD 18) |||
  bitAt 16 s.sddValue |||
  maskIf c.sys.rme (bitAt 15 (if h then SecState.nseBit s.pe.ss else u.getLsbD 15)) |||
  fieldAt 10 (if h then s.rwValue else 0b1111) |||
  fieldAt 8 (if h then s.pe.el else 0) |||
  bitAt 7 (if h then s.errorPending else u.getLsbD 7)

/-- The fields of `d` stored in EDSCR: TFO, INTdis, TDA, MA, SC2, HDE (47 R746). -/
def writeEdscrFields (d : Word) (s : State) : State :=
  s.mapEdscr fun w => writeStored s.cfg.opt.res0Storage (edscrWritable s.cfg) (edscrReserved s.cfg) w d

/-- `RD EDSCR`: 47 R745. -/
def execRdEdscr (ad : AddrDesc) (s : State) : Result := .next (readValue .locked .readWrite ad s edscrValue)

/-- `WR EDSCR`: 47 R746. -/
def execWrEdscr (d : Word) (ad : AddrDesc) (s : State) : Result :=
  .next (writeReg .locked .readWrite ad s (writeEdscrFields d))

/-! ## The effect of INTdis and TFO on the PE -/

/-- The Effective value of INTdis (47 R711): 0b00 when ExternalInvasiveDebugEnabled() is FALSE; bit [22] alone in variants
(a) and (b); a defined value in place of a reserved one (0b00 or 0b11, a free choice). -/
def State.effectiveIntdis (s : State) : BitVec 2 :=
  if !s.authSeen.invasive then 0b00
  else if s.cfg.sys.rme || s.cfg.dbg.debugv8p4 then s.intdis &&& 0b01
  else if s.intdisReserved then (if s.flip .intdis then 0b11 else 0b00)
  else s.intdis

/-- INTdis masks interrupts and SError exceptions taken to Exception level `el` of a Security state (47 R711, variants (a),
(b) and (c); 60_exceptions.md R808, R821), in Non-debug state. -/
def State.interruptsMasked (s : State) (ss : SecState) (el : BitVec 2) : Bool :=
  let a := s.authSeen
  let v := s.effectiveIntdis
  !s.hal.halted &&
    if s.cfg.sys.rme then
      v = 0b01 &&
        match ss with
        | .nonSecure => a.invasive
        | .secure => a.secureInvasive
        | .root => a.rootInvasive
        | .realm => a.realmInvasive
    else
      match ss with
      | .nonSecure => a.invasive && (v.getLsbD 1 || (v = 0b01 && (s.cfg.dbg.debugv8p4 || el = 1)))
      | .secure => a.secureInvasive && (v = 0b11 || (v = 0b10 && el = 1) || (v = 0b01 && s.cfg.dbg.debugv8p4))
      | .root => false
      | .realm => false

/-- TFO is ignored by the PE (47 R693). -/
def State.tfoIgnored (s : State) : Bool :=
  (!s.authSeen.secureNoninvasive && s.env.mdcr3.ste) ||
    (s.cfg.sys.rme && !s.authSeen.realmNoninvasive && s.env.mdcr3.rlte)

/-! ## EDSCR2 -/

/-- The read value of EDSCR2 (47 R752). -/
def edscr2Value (s : State) : Word := readStored s.cfg.opt.res0Storage (edscr2Fields s.cfg) 0 s.ctl.edscr2

/-- The fields of `d` stored in EDSCR2 (47 R752). -/
def writeEdscr2Fields (d : Word) (s : State) : State :=
  { s with
    ctl :=
      { s.ctl with
        edscr2 :=
          writeStored s.cfg.opt.res0Storage (edscr2Fields s.cfg) (~~~edscr2Fields s.cfg) s.ctl.edscr2 d } }

/-- `RD EDSCR2`: 47 R752. -/
def execRdEdscr2 (ad : AddrDesc) (s : State) : Result :=
  .next
    (if s.cfg.hasScr2 then readValue .locked .readWriteUnlocked ad s edscr2Value else readNotPresent ad s)

/-- `WR EDSCR2`: 47 R752. The Software Lock does not protect it (47 R749). -/
def execWrEdscr2 (d : Word) (ad : AddrDesc) (s : State) : Result :=
  .next
    (if s.cfg.hasScr2 then writeReg .locked .readWriteUnlocked ad s (writeEdscr2Fields d) else writeNotPresent ad s)

end Sys2Proof.Machine
end

