-- ==== Sys2Proof/Machine/Watchpoint.lean ====
section
/-!
DEFINITION. The watchpoint registers DBGWVR<n>_EL1 and DBGWCR<n>_EL1 (41_dbg_claim_dcc_watchpoint.md R320 to R344), and
what the source settles of the PE's use of them.
-/

namespace Sys2Proof.Machine

/-! ## Reading and writing the registers -/

/-- DBGWCR<n>_EL1.WT (41 R326). -/
def State.wt (s : State) (n : Index) : Bool := (s.wcr n).getLsbD 20

/-- The read of DBGWCR<n>_EL1[31:0]: LBN and LBNX are UNKNOWN unless WT is 1 (41 R332). -/
def readWcrLo (n : Index) (s : State) : Word :=
  let c := s.cfg
  let v := readStored c.opt.res0Storage (wcrFields c) 0 (loHalf (s.wcr n))
  if s.wt n then v
  else merge (maskAt 16 4 ||| maskIf c.dbg.debugv8p9 (maskAt 30 2)) v (s.free32 .lbn)

/-- The read of DBGWCR<n>_EL1[63:32]: RES0 (41 R322). -/
def readWcrHi (n : Index) (s : State) : Word := readStored s.cfg.opt.res0Storage 0 0 (hiHalf (s.wcr n))

/-- The write of DBGWCR<n>_EL1[31:0] (41 R333). -/
def writeWcrLo (n : Index) (d : Word) (s : State) : State :=
  let c := s.cfg
  let lo := writeStored c.opt.res0Storage (wcrFields c) (~~~wcrFields c) (loHalf (s.wcr n)) d
  s.setWcr n (setHalf false (s.wcr n) lo)

/-- The write of DBGWCR<n>_EL1[63:32]: RES0, nothing stored (41 R333; with RES0_storage the bits are). -/
def writeWcrHi (n : Index) (d : Word) (s : State) : State :=
  let hi := writeStored s.cfg.opt.res0Storage 0 (BitVec.allOnes 32) (hiHalf (s.wcr n)) d
  s.setWcr n (setHalf true (s.wcr n) hi)

/-- The write of one word of DBGWVR<n>_EL1 (41 R344). -/
def writeWvr (n : Index) (hi : Bool) (d : Word) (s : State) : State :=
  s.setWvr n (merge (wvrStored s.cfg) (s.wvr n) (setHalf hi (s.wvr n) d))

/-- The read of DBGWVR<n>_EL1 (41 R343). -/
def readWvrOf (n : Index) (s : State) : Dword := readAddress s.cfg (s.wvr n)

/-! ## The meanings -/

/-- A read of a watchpoint register: 40 R232 if watchpoint n is not implemented, else the ladder of R321 and R341. -/
def readWatchpoint (n : Index) (ad : AddrDesc) (s : State) (v : State → Word) : State :=
  if s.cfg.hasWatchpoint n then readValue .guarded .readWrite ad s v else readUnimplemented ad s

/-- A write of a watchpoint register: 40 R232 if watchpoint n is not implemented, else the ladder of R321 and R341. -/
def writeWatchpoint (n : Index) (ad : AddrDesc) (s : State) (w : State → State) : State :=
  if s.cfg.hasWatchpoint n then writeReg .guarded .readWrite ad s w else writeUnimplemented ad s

/-- `RD DBGWVR<n>_EL1[31:0]`: 41 R343. -/
def execRdDbgwvrLo (n : Index) (ad : AddrDesc) (s : State) : Result :=
  .next (readWatchpoint n ad s fun t => loHalf (readWvrOf n t))

/-- `WR DBGWVR<n>_EL1[31:0]`: 41 R344. -/
def execWrDbgwvrLo (n : Index) (d : Word) (ad : AddrDesc) (s : State) : Result :=
  .next (writeWatchpoint n ad s (writeWvr n false d))

/-- `RD DBGWVR<n>_EL1[63:32]`: 41 R343. -/
def execRdDbgwvrHi (n : Index) (ad : AddrDesc) (s : State) : Result :=
  .next (readWatchpoint n ad s fun t => hiHalf (readWvrOf n t))

/-- `WR DBGWVR<n>_EL1[63:32]`: 41 R344. -/
def execWrDbgwvrHi (n : Index) (d : Word) (ad : AddrDesc) (s : State) : Result :=
  .next (writeWatchpoint n ad s (writeWvr n true d))

/-- `RD DBGWCR<n>_EL1[31:0]`: 41 R332. -/
def execRdDbgwcrLo (n : Index) (ad : AddrDesc) (s : State) : Result :=
  .next (readWatchpoint n ad s (readWcrLo n))

/-- `WR DBGWCR<n>_EL1[31:0]`: 41 R333. -/
def execWrDbgwcrLo (n : Index) (d : Word) (ad : AddrDesc) (s : State) : Result :=
  .next (writeWatchpoint n ad s (writeWcrLo n d))

/-- `RD DBGWCR<n>_EL1[63:32]`: 41 R332; without FEAT_Debugv8p9 the offset is reserved (30_encoding.md R190 a). -/
def execRdDbgwcrHi (n : Index) (ad : AddrDesc) (s : State) : Result :=
  .next
    (if s.cfg.hasWatchpoint n && !s.cfg.dbg.debugv8p9 then readReserved ad s
    else readWatchpoint n ad s (readWcrHi n))

/-- `WR DBGWCR<n>_EL1[63:32]`: 41 R333; without FEAT_Debugv8p9 the offset is reserved (30_encoding.md R190 a). -/
def execWrDbgwcrHi (n : Index) (d : Word) (ad : AddrDesc) (s : State) : Result :=
  .next
    (if s.cfg.hasWatchpoint n && !s.cfg.dbg.debugv8p9 then writeReserved ad s
    else writeWatchpoint n ad s (writeWcrHi n d))

/-! ## What the PE makes of a watchpoint -/

/-- EffectiveE_wp(n) (41 R331). -/
def State.effectiveEWp (s : State) (n : Index) : Bool := !s.enableIgnored n && (s.wcr n).getLsbD 0

/-- A valid BAS value: nonzero, and its set bits are contiguous (41 R329). -/
def validBAS (b : BitVec 8) : Bool :=
  b != 0 && (List.range 8).any fun lo => (List.range 9).any fun len =>
    b = ((BitVec.allOnes 8 >>> (8 - len)) <<< lo) && decide (0 < len) && decide (lo + len ≤ 8)

/-- The watchpoint type {WT2, WT}; WT2 is 0 where it is not a field, that is without FEAT_BWE2 (41 R325; 30_encoding.md
R188 names FEAT_ABLE; DEDUCED, notes/assumptions/44.md). -/
def State.watchpointType (s : State) (n : Index) : BitVec 2 :=
  BitVec.ofBool (s.cfg.dbg.bwe2 && (s.wcr n).getLsbD 22) ++ BitVec.ofBool (s.wt n)

/-- DBGWCR<n>_EL1.MASK (41 R324). -/
def State.watchpointMask (s : State) (n : Index) : BitVec 5 := (s.wcr n).extractLsb' 24 5

/-- LSC selects the kind of access (41 R330). Whether cache maintenance counts as a load or a store is not in the source
(N14): any LSC but 0b00 admits it. -/
def lscSelects (lsc : BitVec 2) : DataKind → Bool
  | .load => lsc.getLsbD 0
  | .store => lsc.getLsbD 1
  | .atomic => lsc != 0
  | .cacheMaintenance => lsc != 0

/-- Whether watchpoint n watches the byte at `addr` under the mask `m` (41 R329, R334): bytes +0 to +7 of BAS, or +0 to +3
where DBGWVR<n>_EL1[2] is 1; with a mask, every address that agrees above it. `none` where the source does not say: a
reserved BAS value, and a mask together with BAS or low address bits that select less (N13, N14). -/
def State.watchesByte (s : State) (n : Index) (m : BitVec 5) (aa32 : Bool) (addr : Dword) : Option Bool :=
  let base := comparedAddress s.cfg aa32 (s.wvr n)
  let here := if aa32 then addr &&& dmask 31 0 else addr
  let bas : BitVec 8 := (s.wcr n).extractLsb' 5 8
  let k := (here - base).toNat
  if m = 0 then
    if validBAS bas then some (decide (k < if base.getLsbD 2 then 4 else 8) && bas.getLsbD k) else none
  else if bas = 0xFF && (base &&& addressMask m) = 0 then some (agreesUnderMask m here base)
  else none

/-- Whether the address test of watchpoint n holds of an access (41 R334): without a mask, some byte accessed is watched;
with one, the access address agrees; inverted for a mismatch watchpoint, WT2 being 1. A masked access that agrees only in
a later byte is not settled (N14). -/
def State.watchpointMatches (s : State) (n : Index) (m : BitVec 5) (a : DataAccess) : Option Bool :=
  let bytes := (List.range a.size).map fun i => s.watchesByte n m a.aa32 (a.first + BitVec.ofNat 64 i)
  let hit :=
    if (if m = 0 then bytes.contains (some true) else bytes.head? = some (some true)) then some true
    else if bytes.all (fun b => b = some false) then some false
    else none
  if (s.watchpointType n).getLsbD 1 then hit.map (!·) else hit

/-- The address for EDWAR is one that the PE may report (44 R515, R517, 47 R760, 70 R891): any, if FnV says it is not
valid; within the smallest translation granule of a location accessed, if FnP says it is not precise; otherwise within a
naturally aligned block, of the DC ZVA block size, that contains a location accessed which the watchpoint may watch, and
itself the address of a location accessed, as FnP 0 says; where EDHSR is not implemented the PE behaves as with FnP 0
(44 R510; DEDUCED, notes/assumptions/44.md). -/
def State.reportedNear (s : State) (n : Index) (m : BitVec 5) (a : DataAccess) : Bool :=
  let c := s.cfg
  let syndrome := s.syndromeOf n a
  let accessed := fun (p : Dword → Bool) => (List.range a.size).any fun i => p (a.first + BitVec.ofNat 64 i)
  let sameBlock := fun (log2 : Nat) (addr : Dword) => decide (a.reported >>> log2 = addr >>> log2)
  if syndrome.getLsbD 10 then true
  else if syndrome.getLsbD 15 then accessed (sameBlock c.pe.minGranuleLog2)
  else
    accessed (fun addr => sameBlock c.pe.dcZvaLog2 addr &&
      ((s.watchpointType n).getLsbD 1 || s.watchesByte n m a.aa32 addr != some false)) &&
      accessed fun addr => decide (a.reported = addr)

/-- Watchpoint n may halt the PE on the access `a`: it is enabled, LSC selects the kind of access, the agent answers for
its present security control, neither the breakpoint it links to nor the address test is known to fail, and the address
for EDWAR is one that may be reported (60 R805; DESIGN CHOICE, notes/assumptions/30.md). EDHSR.WPF loosens none of these:
the locations tested are then ones that might not have been accessed (44 R514). -/
def State.watchpointEnabled (s : State) (n : Index) (a : DataAccess) (control : BitVec 6) : Bool :=
  s.cfg.hasWatchpoint n && s.effectiveEWp n && s.haltOnBreakpointOrWatchpoint && lscSelects (s.lsc n) a.kind &&
    control = stateControl s.cfg (s.wcr n) && s.linkMatches (s.wt n) (s.wcr n) a.pc != some false &&
    match s.behavesAsMask (64 + n.toNat) (maskReserved (s.watchpointMask n)) (s.watchpointMask n) with
    | none => false
    | some m => s.watchpointMatches n m a != some false && s.reportedNear n m a

end Sys2Proof.Machine
end

