-- ==== Sys2Proof/Machine/Agent.lean ====
section
/-!
DEFINITION. The named steps of the PE and of the other agents (10_state.md R101; 60_exceptions.md R805 to R813). A step
whose enabling condition does not hold does not happen: it leaves the state unchanged (DESIGN CHOICE,
notes/assumptions/29.md). The PE consults the controls as it sees them, `State.seen` (70 R888).
-/

namespace Sys2Proof.Machine

/-! ## Enabling conditions -/

/-- The PE has left reset state with a Reset Catch pending and halting allowed, and the event is still to be taken, before
the PE executes any instruction (70 R865; DEDUCED, notes/assumptions/47.md). -/
def State.resetCatchFirst (s : State) : Bool :=
  s.hal.resetCatchDue && !s.hal.halted && s.env.haltingAllowed && s.isPending .rc

/-- The PE can execute: it is active, and no Reset Catch comes first. -/
def State.executing (s : State) : Bool := s.peActive && !s.resetCatchFirst

/-- Both bits of an EDECCR pair; an unimplemented bit is 0 (44 R472). -/
def State.catchBits (s : State) (e r : Nat) : Bool × Bool :=
  let w := s.ctl.edeccr &&& edeccrFields s.cfg
  (w.getLsbD e, w.getLsbD r)

/-- What a fine-grained pair enables (44 R473, R474): entry with E, return with E XOR R; reset entry with E where the
implementation generates it (44 R477), but not for Realm state. -/
def catches (c : Config) (realm : Bool) (kind : CatchKind) (p : Bool × Bool) : Bool :=
  match kind with
  | .entry => p.1
  | .ret => p.1 != p.2
  | .resetEntry => p.1 && c.opt.resetCatchOnResetEntry && !realm

/-- What a coarse-grained bit enables (44 R476): the source does not say which kinds; reset entry as in 44 R477. -/
def catchesCoarse (c : Config) (kind : CatchKind) (e : Bool) : Bool :=
  match kind with
  | .entry => e
  | .ret => e
  | .resetEntry => e && c.opt.resetCatchOnResetEntry

/-- EDECCR enables Exception Catch debug events for this exception (44 R473 to R477). -/
def State.exceptionCatchEnabled (s : State) (el : BitVec 2) (ss : SecState) (kind : CatchKind) : Bool :=
  let c := s.cfg
  let pair := fun e r =>
    if c.dbg.debugv8p2 then catches c false kind (s.catchBits e r) else catchesCoarse c kind (s.catchBits e r).1
  let el0 := fun r => decide (kind = .ret) && (s.catchBits r r).2
  if el = 3 then pair 3 11
  else
    match ss with
    | .nonSecure => if el = 2 then pair 6 14 else if el = 1 then pair 5 13 else el0 12
    | .secure => if el = 2 then pair 2 10 else if el = 1 then pair 1 9 else el0 8
    | .realm =>
      if el = 2 then catches c true kind (s.catchBits 18 22)
      else if el = 1 then catches c true kind (s.catchBits 17 21)
      else el0 20
    | .root => false

/-- The Halting debug event can be generated, or is pending, as far as this block decides it (60_exceptions.md R805):
necessary conditions; the rest of the generation rules is an input of the PE step (D25). An OS Unlock Catch is generated
by the unlocking write and a Reset Catch by a reset, both of which make it pending (44 R498, R499). An External Debug Request
needs only to be pending: what EDECR.{TRBE, TRCE, PME} enable is not described further in the source (44 R484), and they
gate nothing here (DESIGN CHOICE, notes/assumptions/27.md). -/
def State.eventEnabled (s : State) : HaltReason → Bool
  | .breakpoint n pc control => s.breakpointEnabled n pc control
  | .externalRequest => s.hal.extRequest
  | .haltingStep _ => s.stepEnable || s.hal.ssLoose || s.isPending .ss
  | .osUnlockCatch => s.isPending .osuc
  | .resetCatch => s.isPending .rc
  | .watchpoint n a control => s.watchpointEnabled n a control
  | .hltInstruction => s.hde
  | .debugRegisterAccess => s.tda && !s.osLock
  | .traceRegisterAccess => s.tta && !s.osLock
  | .exceptionCatch el ss kind => s.exceptionCatchEnabled el ss kind

/-- A Halting debug event can be taken now: Non-debug state, halting allowed (60_exceptions.md R807, R810), and, straight
after reset, no Reset Catch comes first (70 R865). -/
def State.canHalt (s : State) (r : HaltReason) : Bool :=
  s.peActive && !s.hal.halted && s.env.haltingAllowed && (!s.resetCatchFirst || r = .resetCatch)

/-! ## Debug state -/

/-- `pe_enter_debug` and `pe_exception_catch` (60_exceptions.md R810, 44 R480): the event is enabled by the controls as the
PE sees them (70 R888). -/
def State.stepEnterDebug (s : State) (r : HaltReason) : State :=
  if s.canHalt r && s.seen.eventEnabled r then s.enterDebugState r else s

/-- The PE generates the event of its own accord, apart from a write of the OS Lock (44 R499) and a reset (R498): a Halting
step while its enable is 1 or was changed, or an Exception Catch that EDECCR enables, where FEAT_Debugv8p8 can hold it. -/
def State.generates (s : State) : HaltReason → Bool
  | .haltingStep _ => s.stepEnable || s.hal.ssLoose
  | .exceptionCatch el ss kind => s.cfg.dbg.debugv8p8 && s.exceptionCatchEnabled el ss kind
  | _ => false

/-- `pe_event_pending(F)`: the event is generated and cannot be taken at once (44 R503 c, 60_exceptions.md R806). Whether any
is generated in Debug state is not in the source (60_exceptions.md R813): a Halting step or an Exception Catch may be, and is
then pending (DESIGN CHOICE, notes/assumptions/30.md). -/
def State.stepEventPending (s : State) (r : HaltReason) : State :=
  if s.executing && s.seen.generates r && !s.canHalt r then
    match r.pending with
    | some f => s.mapEdesr fun w => edesrSet w f true
    | none => s
  else s

/-- `pe_take_pending(F)` (44 R503 d). -/
def State.stepTakePending (s : State) (f : PendingEvent) (k : StepKind) : State :=
  if s.canHalt (f.reason k) && s.isPending f then s.enterDebugState (f.reason k) else s

/-- `pe_restart_request` (60_exceptions.md R811). -/
def State.stepRestartRequest (s : State) : State :=
  if s.peActive && s.hal.halted then s.mapEdscr fun w => edscrWithStatus w statusRestarting else s

/-- An instruction or DTR operation that has not completed when the PE restarts (44 R536, 41 R306): it completes in Debug
state, completes in Non-debug state, or is abandoned. What is left of it in this block, in any of the three, is left
free: DTRRX, DTRTX, RXfull, TXfull, RXO, TXU, ERR, ITO, ITE (notes/assumptions/24.md). -/
def State.unfinishedOperation (s : State) : State :=
  { s with
    dcc := { s.dcc with dtrrx := s.free32 .dtrrx, dtrtx := s.free32 .dtrtx }
    ctl := { s.ctl with edscr := merge memoryModeFlags s.ctl.edscr (s.free32 .flags) } }

/-- `pe_exit_debug` (60_exceptions.md R812), after a restart request. -/
def State.stepExitDebug (s : State) : State :=
  if s.peActive && s.hal.halted && s.status = statusRestarting then
    (if s.ite then s else s.unfinishedOperation).exitDebugState
  else s

/-! ## The PE's side of the DCC and the ITR -/

/-- DTRRX taken: RXfull cleared (41 R314). -/
def State.peTakeRx (s : State) : State := s.mapEdscr fun w => setBit w 30 false

/-- DTRTX written: TXfull set (41 R314). -/
def State.pePutTx (s : State) (v : Word) : State :=
  { s.mapEdscr fun w => setBit w 29 true with dcc := { s.dcc with dtrtx := v } }

/-- `pe_take_rx`: enabled when RXfull is 1 (41 R314, D22). -/
def State.stepTakeRx (s : State) : State := if s.executing && s.rxfull then s.peTakeRx else s

/-- `pe_put_tx(v)`: enabled when TXfull is 0 (41 R314, D22). -/
def State.stepPutTx (s : State) (v : Word) : State := if s.executing && !s.txfull then s.pePutTx v else s

/-- The PE's view replaced; a change of a Context ID register is remembered until the next context synchronization event
(42 R378). -/
def State.withPe (s : State) (p : PeView) : State :=
  { s with
    pe := p
    earlierContexts := if p.context = s.pe.context then s.earlierContexts else s.pe.context :: s.earlierContexts }

/-- The PE can be in a state that an implementation has: its Security state and Exception level are implemented, so that
EDSCR.{NSE, NS} is never a reserved value (47 R715, 93_implementation_defined.md U76). -/
def PeView.isLegal (c : Config) (p : PeView) : Bool :=
  (match p.ss with
    | .nonSecure => c.pe.nonSecureImpl
    | .secure => c.pe.secureImpl
    | .realm => c.sys.rme
    | .root => c.sys.rme) &&
  (p.el != 3 || c.pe.haveEL3) && (p.el != 2 || c.pe.haveEL2)

/-- The other inputs, those that the PE owns taken from `new`: MDCR_EL3, MDCR_EL2, MDSELR_EL1, MDSCR_EL1.EMBWE, the OS
Double Lock, and what depends on the PE's state, HaltingAllowed() and PCSampleProhibited() (10_state.md R42). -/
def Env.withPeOwned (old new : Env) : Env :=
  { old with
    mdcr3 := new.mdcr3
    mdcr2 := new.mdcr2
    mdselr := new.mdselr
    embwe := new.embwe
    doubleLock := new.doubleLock
    haltingAllowed := new.haltingAllowed
    pcSampleProhibited := new.pcSampleProhibited }

/-- The other inputs change (10_state.md R42); entering a state where sampling is prohibited ends the freshness of the
sample (45 R571). -/
def State.withEnv (s : State) (e : Env) : State :=
  { s with
    env := e
    smp := { s.smp with fresh := s.smp.fresh && !e.pcSampleProhibited } }

/-- What an instruction that the debugger makes the PE execute does outside this block: a new view of the PE, and new
values of the inputs that it owns (44 R538). -/
def State.withPeEffect (s : State) (p : PeView) (e : Env) : State := (s.withPe p).withEnv (s.env.withPeOwned e)

/-- `pe_take_itr` (44 R538): enabled in Debug state, EDSCR.MA 0 and ITE 0; the PE executes the instruction in ITR, an opaque
step of which `e` is the effect, and ITE becomes 1. Where ITE is 0 for an operation of Memory access mode no word waits in
ITR, and none is executed: "once per accepted write" (20_memory.md R172; notes/assumptions/21.md). -/
def State.stepTakeItr (s : State) (e : ItrEffect) : State :=
  if s.peActive && s.hal.halted && !s.seen.ma && !s.ite && !s.dcc.memoryOp && e.instruction = s.itrInstruction &&
      e.pe.isLegal s.cfg then
    let t := s.withPeEffect e.pe e.env
    let t := if e.takesRx then t.peTakeRx else t
    let t := match e.putsTx with
      | some v => t.pePutTx v
      | none => t
    t.mapEdscr fun w =>
      let w := if e.exception then setBit w 6 true else w
      setBit w 24 true
  else s

/-- The PE goes on with, or finishes, the load or store that an access made it execute in Memory access mode (41 R304,
49_common_semantics.md R783, 70 R884): while ITE is 0 it has not completed (41 R306), whatever MA is by then. DTRRX, DTRTX
and the flags, ITE and ERR among them, are unconstrained after each such step (DESIGN CHOICE, notes/assumptions/21.md). -/
def State.stepMemoryAccess (s : State) (p : PeView) (e : Env) : State :=
  if s.peActive && s.hal.halted && s.dcc.memoryOp && !s.ite && p.isLegal s.cfg then
    (s.withPeEffect p e).memoryModeEffects
  else s

/-! ## Progress of the PE -/

/-- `pe_branch_retired` (45 R571): enabled in Non-debug state while sampling is not prohibited. -/
def State.stepBranchRetired (s : State) (addr : Dword) : State :=
  if s.executing && !s.hal.halted && !s.env.pcSampleProhibited then
    { s with sampleAddr := addr, smp := { s.smp with fresh := true } }
  else s

/-- `pe_pipe_advance` (47 R709): enabled in Non-debug state. -/
def State.stepPipeAdvance (s : State) : State :=
  if s.executing && !s.hal.halted then s.mapEdscr fun w => setBit w 25 true else s

/-- `pe_context_sync` (20_memory.md R162): what changed before it has taken effect. -/
def State.stepContextSync (s : State) : State :=
  if s.peActive then { s with earlierAuth := [], earlierContexts := [], lateControls := [] } else s

/-- The PE takes an interrupt or an SError exception, in Non-debug state, unless EDSCR.INTdis masks it
(60_exceptions.md R808): what it does to the PE is opaque. -/
def State.stepTakeInterrupt (s : State) (p : PeView) : State :=
  if s.executing && !s.hal.halted && p.isLegal s.cfg && !s.seen.interruptsMasked p.ss p.el then s.withPe p else s

/-! ## Writes by PE software -/

/-- `pe_write_mdscr(bits)` (47 R703, R750, R751): enabled while the OS Lock is set. The write is of MDSCR_EL1, or, in
AArch32 state, of DBGDSCRext, to which no bit of EDSCR2 is mapped (10_state.md R49). What such an access does while the OS
Lock is clear is not in the source (R703): the write then changes nothing of EDSCR and EDSCR2 (DESIGN CHOICE,
notes/assumptions/49.md). Nor is whether the write stores a mapped position that is RES0 on the implementation (EDSCR[31, 23,
19], EDSCR2[3, 1]) where RES0_storage says such positions are stored: it stores none (DESIGN CHOICE,
notes/assumptions/10.md). -/
def State.stepWriteMdscr (s : State) (v : Word) (ehbwe tta : Bool) : State :=
  if s.executing && s.seen.osLock then
    let t := { s with
      ctl :=
        { s.ctl with
          edscr := merge (edscrMdscr s.cfg) s.ctl.edscr v
          edscr2 :=
            merge (maskIf s.usingAA64 (edscr2Fields s.cfg)) s.ctl.edscr2 (bitAt 3 ehbwe ||| bitAt 1 tta) } }
    t.settle fun r =>
      bitsOf .edscr ((edscrMdscr s.cfg).setWidth 64) r |||
        bitsOf .edscr2 ((maskIf s.usingAA64 (edscr2Fields s.cfg)).setWidth 64) r
  else s

/-- EDSCR.TDA traps software accesses to the register: the breakpoint and watchpoint registers (47 R712). -/
def SysReg.trappedByTDA : SysReg → Bool
  | .dbgbvr _ | .dbgbcr _ | .dbgwvr _ | .dbgwcr _ => true
  | .dbgbvr32 _ | .dbgbxvr _ | .dbgbcr32 _ | .dbgwvr32 _ | .dbgwcr32 _ => true
  | .claimSet | .claimClr | .oseccr | .dbgprcr | .oslar => false

/-- PE software can write the register: it is a view of the Execution state the PE is in, of a breakpoint or watchpoint
that is implemented (10_state.md R48, R49); a register whose two views write the same bits stands for both. -/
def SysReg.reachable (c : Config) (aa64 : Bool) : SysReg → Bool
  | .dbgbvr n | .dbgbcr n => aa64 && c.hasBreakpoint n
  | .dbgwvr n | .dbgwcr n => aa64 && c.hasWatchpoint n
  | .dbgbvr32 n | .dbgbxvr n | .dbgbcr32 n => !aa64 && c.hasBreakpoint n
  | .dbgwvr32 n | .dbgwcr32 n => !aa64 && c.hasWatchpoint n
  | .claimSet | .claimClr | .oseccr | .dbgprcr | .oslar => true

/-- What a write of a mapped System register stores (10_state.md R49). An AArch32 view is a word: DBGBVR<n> and DBGWVR<n>
are bits [31:0], DBGBXVR<n> is bits [63:32] of DBGBVR<n>_EL1, and DBGWVR<n>_EL1[63:32] has no AArch32 view. For DBGOSLAR
bit 0 of `v` says whether the write locks (DESIGN CHOICE, notes/assumptions/50.md). -/
def State.sysRegWritten (s : State) (r : SysReg) (v : Dword) : State :=
  match r with
  | .dbgbvr n => writeBvr n true (hiHalf v) (writeBvr n false (loHalf v) s)
  | .dbgbcr n =>
    let t := writeBcrLo n (loHalf v) s
    if s.cfg.dbg.debugv8p9 then writeBcrHi n (hiHalf v) t else t
  | .dbgwvr n => writeWvr n true (hiHalf v) (writeWvr n false (loHalf v) s)
  | .dbgwcr n =>
    let t := writeWcrLo n (loHalf v) s
    if s.cfg.dbg.debugv8p9 then writeWcrHi n (hiHalf v) t else t
  | .dbgbvr32 n => writeBvr n false (loHalf v) s
  | .dbgbxvr n => writeBvr n true (loHalf v) s
  | .dbgbcr32 n => writeBcrLo n (loHalf v) s
  | .dbgwvr32 n => writeWvr n false (loHalf v) s
  | .dbgwcr32 n => writeWcrLo n (loHalf v) s
  | .claimSet => s.setClaim (s.dcc.claim ||| v.setWidth 8)
  | .claimClr => s.setClaim (s.dcc.claim &&& ~~~v.setWidth 8)
  | .oseccr => writeEdeccrFields (loHalf v) s
  | .dbgprcr => { s with ctl := { s.ctl with edprcr := setBit s.ctl.edprcr 0 (v.getLsbD 0) } }
  | .oslar => s.writeOsLock (v.getLsbD 0)

/-- The bits of the controls that a write of the System register writes, which the PE then sees as written (20_memory.md
R161). -/
def SysReg.written : SysReg → ControlReg → Dword
  | .dbgbvr n => bitsOf (.bvr n) (dmask 63 0)
  | .dbgbcr n => bitsOf (.bcr n) (dmask 63 0)
  | .dbgwvr n => bitsOf (.wvr n) (dmask 63 0)
  | .dbgwcr n => bitsOf (.wcr n) (dmask 63 0)
  | .dbgbvr32 n => bitsOf (.bvr n) (dmask 31 0)
  | .dbgbxvr n => bitsOf (.bvr n) (dmask 63 32)
  | .dbgbcr32 n => bitsOf (.bcr n) (dmask 31 0)
  | .dbgwvr32 n => bitsOf (.wvr n) (dmask 31 0)
  | .dbgwcr32 n => bitsOf (.wcr n) (dmask 31 0)
  | .oseccr => bitsOf .edeccr (dmask 31 0)
  | .oslar => bitsOf .oslk (dmask 0 0)
  | .claimSet | .claimClr | .dbgprcr => fun _ => 0

/-- A write of a mapped System register by PE software (10_state.md R49). Where EDSCR.TDA traps it, the OS Lock is clear
and halting is allowed, the PE takes a Software Access debug event in place of completing it (47 R712, 60_exceptions.md
R815 d). -/
def State.stepSysWrite (s : State) (r : SysReg) (v : Dword) : State :=
  if s.executing && r.reachable s.cfg s.usingAA64 then
    if r.trappedByTDA && s.canHalt .debugRegisterAccess && s.seen.eventEnabled .debugRegisterAccess then
      s.enterDebugState .debugRegisterAccess
    else (s.sysRegWritten r v).settle r.written
  else s

/-! ## Inputs -/

/-- The premise of 40 R222: with FEAT_Debugv8p4 and Non-secure state implemented, ExternalNoninvasiveDebugEnabled() is
TRUE. -/
def Auth.isLegal (c : Config) (a : Auth) : Bool := !(c.dbg.debugv8p4 && c.pe.nonSecureImpl) || a.noninvasive

/-- The authentication predicates change (60_exceptions.md R821), to values they can have; the old ones may be seen until
the next context synchronization event (20_memory.md R162). -/
def State.withAuth (s : State) (a : Auth) : State :=
  if a.isLegal s.cfg then
    { s with
      auth := a
      earlierAuth := if a = s.auth then s.earlierAuth else s.auth :: s.earlierAuth }
  else s

/-- The other inputs change. Where halting is no longer allowed the PE may execute, and a Reset Catch that was to come
first no longer does (70 R865, 60_exceptions.md R809; notes/assumptions/47.md). -/
def State.stepSetEnv (s : State) (e : Env) : State :=
  { s.withEnv e with hal := { s.hal with resetCatchDue := s.hal.resetCatchDue && e.haltingAllowed } }

/-- The PE changes its state by itself, to one that the implementation has. -/
def State.stepSetPe (s : State) (p : PeView) : State := if p.isLegal s.cfg then s.withPe p else s

/-- `ext_trace_access_failed` (46 R644). -/
def State.extTraceAccessFailed (s : State) (ad : AddrDesc) : State :=
  if s.powered && s.cfg.sys.trcExt && s.cfg.sys.trbe && ad.ss = .nonSecure && !s.allowTraceFor ad.ss then
    { s with sticky := { s.sticky with stad := true } }
  else s

/-- `ext_pmu_access_failed` (46 R650), for an access of any Security state: the lead sentence of R650 is followed, not the
"Non-secure" of its table (DEDUCED, as 90_conflicts.md C2 settles SDAD; notes/assumptions/48.md). -/
def State.extPmuAccessFailed (s : State) (ad : AddrDesc) : State :=
  if s.powered && s.cfg.sys.pmuv3Ext && !s.allowPMUFor ad.ss then
    { s with sticky := { s.sticky with spmad := true } }
  else s

/-- One step of an agent (10_state.md R101). -/
def agentStep (a : AgentStep) (s : State) : State :=
  match a with
  | .enterDebug r => s.stepEnterDebug r
  | .eventPending r => s.stepEventPending r
  | .takePending f k => s.stepTakePending f k
  | .restartRequest => s.stepRestartRequest
  | .exitDebug => s.stepExitDebug
  | .takeItr e => s.stepTakeItr e
  | .memoryAccess p e => s.stepMemoryAccess p e
  | .takeRx => s.stepTakeRx
  | .putTx v => s.stepPutTx v
  | .branchRetired addr => s.stepBranchRetired addr
  | .pipeAdvance => s.stepPipeAdvance
  | .writeMdscr v ehbwe tta => s.stepWriteMdscr v ehbwe tta
  | .contextSync => s.stepContextSync
  | .sysWrite r v => s.stepSysWrite r v
  | .coldReset => s.coldReset
  | .warmReset => s.warmReset
  | .externalDebugReset => s.externalDebugReset
  | .leaveReset => s.leaveReset
  | .powerDownCore => s.powerDownCore
  | .powerUpCore => s.powerUpCore
  | .enterRetention => s.enterRetention
  | .leaveRetention => s.leaveRetention
  | .setAuth a => s.withAuth a
  | .setEnv e => s.stepSetEnv e
  | .setPe p => s.stepSetPe p
  | .takeInterrupt p => s.stepTakeInterrupt p
  | .setExtRequest b => { s with hal := { s.hal with extRequest := b } }
  | .extTraceAccessFailed ad => s.extTraceAccessFailed ad
  | .extPmuAccessFailed ad => s.extPmuAccessFailed ad

end Sys2Proof.Machine
end

