-- ==== Sys2Proof/Machine/Ident.lean ====
section
/-!
DEFINITION. The identification and feature registers: DBGAUTHSTATUS_EL1, EDCIDR0 to 3, EDPIDR0 to 4, EDDEVAFF0 and 1,
EDDEVARCH, EDDEVID to EDDEVID2, EDDEVTYPE, MIDR_EL1, EDPFR, EDAA32PFR, EDDFR, EDDFR1, EDDFR2 (40 R220 to R224, 42, 43,
45 R576 to R603, 47 R765 to R768). None has storage.
-/

namespace Sys2Proof.Machine

/-! ## Values -/

/-- The two-bit code of DBGAUTHSTATUS_EL1 (40 R222). -/
def authField (impl enabled : Bool) : BitVec 2 := if !impl then 0b00 else if enabled then 0b11 else 0b10

/-- DBGAUTHSTATUS_EL1 (40 R222). RootImpl and RealmImpl are FEAT_RME, the spec's decision D20 (DESIGN CHOICE,
notes/assumptions/51.md). -/
def authStatus (s : State) : Word :=
  let c := s.cfg
  let rtid := authField c.sys.rme s.auth.rootInvasive
  let rlid := authField c.sys.rme s.auth.realmInvasive
  let sid := authField c.pe.secureImpl s.auth.secureInvasive
  let snid := if c.dbg.debugv8p4 then sid else authField c.pe.secureImpl s.auth.secureNoninvasive
  let nsid := authField c.pe.nonSecureImpl s.auth.invasive
  let nsnid :=
    if c.dbg.debugv8p4 then (if c.pe.nonSecureImpl then 0b11 else 0b00)
    else authField c.pe.nonSecureImpl s.auth.noninvasive
  fieldAt 26 rtid ||| fieldAt 24 rtid ||| fieldAt 14 rlid ||| fieldAt 12 rlid ||| fieldAt 6 snid ||| fieldAt 4 sid |||
    fieldAt 2 nsnid ||| fieldAt 0 nsid

/-- EDDEVAFF0, equal to MPIDR_EL1[31:0] (42 R383, R384). -/
def devAff0 (s : State) : Word :=
  let i := s.cfg.ident
  bitAt 31 true ||| bitAt 30 i.affU ||| bitAt 24 i.affMT ||| fieldAt 16 i.aff2 ||| fieldAt 8 i.aff1 ||| fieldAt 0 i.aff0

/-- EDDEVAFF1, equal to MPIDR_EL1[63:32] (42 R386, R387). -/
def devAff1 (s : State) : Word := fieldAt 0 s.cfg.ident.aff3

/-- EDDEVARCH.ARCHVER: the highest implemented version of the debug architecture (42 R393). -/
def archVer (c : Config) : BitVec 4 :=
  if c.dbg.debugv8p9 then 0b1011
  else if c.dbg.debugv8p8 then 0b1010
  else if c.dbg.debugv8p4 then 0b1001
  else if c.dbg.debugv8p2 then 0b1000
  else if c.dbg.debugv8p1 then 0b0111
  else 0b0110

/-- EDDEVARCH (42 R395). -/
def devArch (s : State) : Word := 0x47700A15 ||| fieldAt 12 (archVer s.cfg)

/-- EDDEVID (42 R401 to R404). -/
def devId (s : State) : Word :=
  let c := s.cfg
  let pcSample : BitVec 4 := if !c.hasPcsr then 0b0000 else if c.hasVidsr then 0b0011 else 0b0010
  bitAt 24 c.has.edacr ||| bitAt 4 c.dbg.doPD ||| fieldAt 0 pcSample

/-- EDDEVID1 (42 R409 to R411). -/
def devId1 (s : State) : Word :=
  let c := s.cfg
  let hsr : BitVec 4 := if c.dbg.debugv8p9 then 0b0010 else if c.dbg.edhsr then 0b0001 else 0b0000
  let offset : BitVec 4 := if c.hasPcsr then 0b0010 else 0b0000
  fieldAt 4 hsr ||| fieldAt 0 offset

/-- EDPIDR0 (45 R593). -/
def pidr0 (s : State) : Word := fieldAt 0 (s.cfg.ident.partNumber.extractLsb' 0 8)

/-- EDPIDR1 (45 R595): DES_0, PART_1. -/
def pidr1 (s : State) : Word :=
  fieldAt 4 (s.cfg.ident.designer.extractLsb' 0 4) ||| fieldAt 0 (s.cfg.ident.partNumber.extractLsb' 8 4)

/-- EDPIDR2 (45 R597): REVISION, JEDEC, DES_1. -/
def pidr2 (s : State) : Word :=
  fieldAt 4 s.cfg.ident.revision ||| bitAt 3 true ||| fieldAt 0 (s.cfg.ident.designer.extractLsb' 4 3)

/-- EDPIDR3 (45 R599): REVAND, CMOD. -/
def pidr3 (s : State) : Word := fieldAt 4 s.cfg.ident.revand ||| fieldAt 0 s.cfg.ident.cmod

/-- EDPIDR4 (45 R601): SIZE 0, DES_2. -/
def pidr4 (s : State) : Word := fieldAt 0 s.cfg.ident.designerCont

/-- A field at its lowest bit of a 64-bit register. -/
def dfieldAt {n : Nat} (lo : Nat) (v : BitVec n) : Dword := v.setWidth 64 <<< lo

/-- EDPFR (45 R578 to R586); its "Reserved, UNKNOWN" bits are drawn. -/
def pfr (s : State) : Dword :=
  let p := s.cfg.pfr
  let known :=
    dfieldAt 44 p.amu ||| dfieldAt 36 (BitVec.ofBool s.cfg.sys.sel2) ||| dfieldAt 32 (BitVec.ofBool s.cfg.sys.sve) |||
      dfieldAt 24 p.gic ||| dfieldAt 20 p.advSIMD ||| dfieldAt 16 p.fp ||| dfieldAt 12 p.el3 ||| dfieldAt 8 p.el2 |||
      dfieldAt 4 p.el1 ||| dfieldAt 0 p.el0
  merge (dmask 63 48 ||| dmask 43 40 ||| dmask 31 28) known (s.free64 .idReserved)

/-- EDAA32PFR (42 R352 to R357): each field, or its RES0 or RAZ alternative. -/
def aa32pfr (s : State) : Dword :=
  let p := s.cfg.pfr
  let msaFrac := if p.aa32PMSA = 0 && p.aa32VMSA = 15 then p.aa32MsaFrac else 0
  let el3 := if p.el3 = 0 then p.aa32EL3 else 0
  let el2 := if p.el2 = 0 then p.aa32EL2 else 0
  dfieldAt 16 msaFrac ||| dfieldAt 12 el3 ||| dfieldAt 8 el2 ||| dfieldAt 4 p.aa32PMSA ||| dfieldAt 0 p.aa32VMSA

/-- A count field of EDDFR: the count minus 1, at most 15 (43 R440). -/
def dfrCount (n : Nat) : BitVec 4 := BitVec.ofNat 4 (min (n - 1) 15)

/-- A count field of EDDFR1: the count minus 1, or 0 where EDDFR holds the whole count (43 R450). -/
def dfr1Count (c : Config) (shown : Bool) (n : Nat) : BitVec 8 :=
  if (c.dbg.debugv8p9 && decide (16 ≤ n)) || shown then BitVec.ofNat 8 (n - 1) else 0

/-- EDDFR (43 R433 to R440); its "Reserved, UNKNOWN" bits are drawn, TraceBuffer among them without FEAT_TRBE_EXT. -/
def dfr (s : State) : Dword :=
  let c := s.cfg
  let known :=
    dfieldAt 56 (BitVec.ofBool c.sys.trbeExt) ||| dfieldAt 44 c.dfr.traceBuffer |||
      dfieldAt 40 (BitVec.ofBool c.sys.trf) ||| dfieldAt 28 (dfrCount c.pe.numCtxCmp) ||| dfieldAt 24 c.dfr.sebep |||
      dfieldAt 20 (dfrCount c.pe.numWrp) ||| dfieldAt 16 c.dfr.pmss ||| dfieldAt 12 (dfrCount c.pe.numBrp) |||
      dfieldAt 8 c.dfr.pmuVer ||| dfieldAt 4 c.dfr.traceVer
  let unknown :=
    dmask 63 60 ||| dmask 55 48 ||| maskIf (!c.sys.trbeExt) (dmask 47 44) ||| dmask 39 32 ||| dmask 3 0
  merge unknown known (s.free64 .idReserved)

/-- EDDFR1 (43 R444 to R452). -/
def dfr1 (s : State) : Dword :=
  let c := s.cfg
  let abl : BitVec 8 := if c.dbg.able then BitVec.ofNat 8 (c.pe.numAblCmp - 1) else 0
  dfieldAt 56 abl ||| dfieldAt 52 c.dfr.dpfzs ||| dfieldAt 48 c.dfr.ebep ||| dfieldAt 44 c.dfr.ite |||
    dfieldAt 40 (BitVec.ofBool c.dbg.able) ||| dfieldAt 36 c.dfr.pmicntr ||| dfieldAt 32 c.dfr.spmu |||
    dfieldAt 24 (dfr1Count c c.dfr.dfr1CtxCmps c.pe.numCtxCmp) ||| dfieldAt 16 (dfr1Count c c.dfr.dfr1Wrps c.pe.numWrp) |||
    dfieldAt 8 (dfr1Count c c.dfr.dfr1Brps c.pe.numBrp) ||| dfieldAt 0 c.dfr.syspmuid

/-- EDDFR2 (43 R457 to R462). BWE may be 0b0001 on every implementation with FEAT_BWE: no parameter tells Armv9.5, from
which R458 does not permit it, from an earlier version (DEDUCED, notes/assumptions/43.md). -/
def dfr2 (s : State) : Dword :=
  let c := s.cfg
  let bwe : BitVec 4 := if c.dbg.bwe2 then 0b0010 else if c.dbg.bwe && c.dfr.bweShown then 0b0001 else 0b0000
  dfieldAt 24 c.dfr.trbeExc ||| dfieldAt 20 c.dfr.speNVM ||| dfieldAt 16 c.dfr.speExc ||| dfieldAt 4 bwe |||
    dfieldAt 0 c.dfr.step

/-! ## The feature ladders -/

/-- "IsCorePowered() and !DoubleLockStatus()" (42 R351, 43 R431, 45 R577). -/
def State.coreReadable (s : State) : Bool := s.powered && !s.doubleLock

/-- The first clause of EDDFR1 and EDDFR2: an all-zero register is not readable under the OS Lock (43 R443, R456). -/
def State.coreReadableNonzero (s : State) (v : Dword) : Bool := s.coreReadable && (v != 0 || !s.osLock)

/-- A read of one word of a feature register. -/
def readFeature (reg : ImpdefReg) (readable : Bool) (hi : Bool) (v : Dword) (ad : AddrDesc) (s : State) : State :=
  readBy (ladderFeature s ad reg readable) .coreOff ad s fun t => t.okRead (halfOf hi v)

/-- A write of a feature register: ignored, or the response the ladder gives; the register has no storage. -/
def writeFeature (reg : ImpdefReg) (readable : Bool) (ad : AddrDesc) (s : State) : State :=
  writeBy (ladderFeature s ad reg readable) .coreOff ad s id

/-! ## The meanings -/

/-- `RD DBGAUTHSTATUS`: 40 R223. -/
def execRdDbgauthstatus (ad : AddrDesc) (s : State) : Result :=
  .next (readIdent authStatus ad s)

/-- `WR DBGAUTHSTATUS`: 40 R224. The data is discarded. -/
def execWrDbgauthstatus (_d : Word) (ad : AddrDesc) (s : State) : Result :=
  .next (writeIdent ad s)

/-- `RD EDCIDR0`: 42 R367. -/
def execRdEdcidr0 (ad : AddrDesc) (s : State) : Result :=
  .next (readOptionalIdent (fun _ => 0x0000000D) ad s)

/-- `WR EDCIDR0`: 42 R368. The data is discarded. -/
def execWrEdcidr0 (_d : Word) (ad : AddrDesc) (s : State) : Result :=
  .next (writeOptionalIdent ad s)

/-- `RD EDCIDR1`: 42 R369. -/
def execRdEdcidr1 (ad : AddrDesc) (s : State) : Result :=
  .next (readOptionalIdent (fun _ => 0x00000090) ad s)

/-- `WR EDCIDR1`: 42 R370. The data is discarded. -/
def execWrEdcidr1 (_d : Word) (ad : AddrDesc) (s : State) : Result :=
  .next (writeOptionalIdent ad s)

/-- `RD EDCIDR2`: 42 R371. -/
def execRdEdcidr2 (ad : AddrDesc) (s : State) : Result :=
  .next (readOptionalIdent (fun _ => 0x00000005) ad s)

/-- `WR EDCIDR2`: 42 R372. The data is discarded. -/
def execWrEdcidr2 (_d : Word) (ad : AddrDesc) (s : State) : Result :=
  .next (writeOptionalIdent ad s)

/-- `RD EDCIDR3`: 42 R373. -/
def execRdEdcidr3 (ad : AddrDesc) (s : State) : Result :=
  .next (readOptionalIdent (fun _ => 0x000000B1) ad s)

/-- `WR EDCIDR3`: 42 R374. The data is discarded. -/
def execWrEdcidr3 (_d : Word) (ad : AddrDesc) (s : State) : Result :=
  .next (writeOptionalIdent ad s)

/-- `RD EDPIDR0`: 45 R593. -/
def execRdEdpidr0 (ad : AddrDesc) (s : State) : Result :=
  .next (readOptionalIdent pidr0 ad s)

/-- `WR EDPIDR0`: 45 R594. The data is discarded. -/
def execWrEdpidr0 (_d : Word) (ad : AddrDesc) (s : State) : Result :=
  .next (writeOptionalIdent ad s)

/-- `RD EDPIDR1`: 45 R595. -/
def execRdEdpidr1 (ad : AddrDesc) (s : State) : Result :=
  .next (readOptionalIdent pidr1 ad s)

/-- `WR EDPIDR1`: 45 R596. The data is discarded. -/
def execWrEdpidr1 (_d : Word) (ad : AddrDesc) (s : State) : Result :=
  .next (writeOptionalIdent ad s)

/-- `RD EDPIDR2`: 45 R597. -/
def execRdEdpidr2 (ad : AddrDesc) (s : State) : Result :=
  .next (readOptionalIdent pidr2 ad s)

/-- `WR EDPIDR2`: 45 R598. The data is discarded. -/
def execWrEdpidr2 (_d : Word) (ad : AddrDesc) (s : State) : Result :=
  .next (writeOptionalIdent ad s)

/-- `RD EDPIDR3`: 45 R599. -/
def execRdEdpidr3 (ad : AddrDesc) (s : State) : Result :=
  .next (readOptionalIdent pidr3 ad s)

/-- `WR EDPIDR3`: 45 R600. The data is discarded. -/
def execWrEdpidr3 (_d : Word) (ad : AddrDesc) (s : State) : Result :=
  .next (writeOptionalIdent ad s)

/-- `RD EDPIDR4`: 45 R601. -/
def execRdEdpidr4 (ad : AddrDesc) (s : State) : Result :=
  .next (readOptionalIdent pidr4 ad s)

/-- `WR EDPIDR4`: 45 R602. The data is discarded. -/
def execWrEdpidr4 (_d : Word) (ad : AddrDesc) (s : State) : Result :=
  .next (writeOptionalIdent ad s)

/-- `RD EDDEVAFF0`: 42 R384. -/
def execRdEddevaff0 (ad : AddrDesc) (s : State) : Result :=
  .next (readIdent devAff0 ad s)

/-- `WR EDDEVAFF0`: 42 R385. The data is discarded. -/
def execWrEddevaff0 (_d : Word) (ad : AddrDesc) (s : State) : Result :=
  .next (writeIdent ad s)

/-- `RD EDDEVAFF1`: 42 R387. -/
def execRdEddevaff1 (ad : AddrDesc) (s : State) : Result :=
  .next (readIdent devAff1 ad s)

/-- `WR EDDEVAFF1`: 42 R388. The data is discarded. -/
def execWrEddevaff1 (_d : Word) (ad : AddrDesc) (s : State) : Result :=
  .next (writeIdent ad s)

/-- `RD EDDEVARCH`: 42 R395. -/
def execRdEddevarch (ad : AddrDesc) (s : State) : Result :=
  .next (readOptionalIdent devArch ad s)

/-- `WR EDDEVARCH`: 42 R396. The data is discarded. -/
def execWrEddevarch (_d : Word) (ad : AddrDesc) (s : State) : Result :=
  .next (writeOptionalIdent ad s)

/-- `RD EDDEVID`: 42 R404. -/
def execRdEddevid (ad : AddrDesc) (s : State) : Result :=
  .next (readIdent devId ad s)

/-- `WR EDDEVID`: 42 R405. The data is discarded. -/
def execWrEddevid (_d : Word) (ad : AddrDesc) (s : State) : Result :=
  .next (writeIdent ad s)

/-- `RD EDDEVID1`: 42 R411. -/
def execRdEddevid1 (ad : AddrDesc) (s : State) : Result :=
  .next (readIdent devId1 ad s)

/-- `WR EDDEVID1`: 42 R412. The data is discarded. -/
def execWrEddevid1 (_d : Word) (ad : AddrDesc) (s : State) : Result :=
  .next (writeIdent ad s)

/-- `RD EDDEVID2`: 42 R416. -/
def execRdEddevid2 (ad : AddrDesc) (s : State) : Result :=
  .next (readIdent (fun _ => 0) ad s)

/-- `WR EDDEVID2`: 42 R417. The data is discarded. -/
def execWrEddevid2 (_d : Word) (ad : AddrDesc) (s : State) : Result :=
  .next (writeIdent ad s)

/-- `RD EDDEVTYPE`: 42 R421. -/
def execRdEddevtype (ad : AddrDesc) (s : State) : Result :=
  .next (readOptionalIdent (fun _ => 0x00000015) ad s)

/-- `WR EDDEVTYPE`: 42 R422. The data is discarded. -/
def execWrEddevtype (_d : Word) (ad : AddrDesc) (s : State) : Result :=
  .next (writeOptionalIdent ad s)

/-- `RD MIDR_EL1`: 47 R768. -/
def execRdMidr (ad : AddrDesc) (s : State) : Result :=
  .next (readBy (ladderMidr s ad) .coreOff ad s fun t => t.okRead t.cfg.ident.midr)

/-- `WR MIDR_EL1`: 47 R768. The data is discarded. -/
def execWrMidr (_d : Word) (ad : AddrDesc) (s : State) : Result :=
  .next (writeBy (ladderMidr s ad) .coreOff ad s id)

/-- `RD EDPFR[31:0]`: 45 R586. -/
def execRdEdpfrLo (ad : AddrDesc) (s : State) : Result :=
  .next (readFeature .edpfr s.coreReadable false (pfr s) ad s)

/-- `WR EDPFR[31:0]`: 45 R587. The data is discarded. -/
def execWrEdpfrLo (_d : Word) (ad : AddrDesc) (s : State) : Result :=
  .next (writeFeature .edpfr s.coreReadable ad s)

/-- `RD EDPFR[63:32]`: 45 R586. -/
def execRdEdpfrHi (ad : AddrDesc) (s : State) : Result :=
  .next (readFeature .edpfr s.coreReadable true (pfr s) ad s)

/-- `WR EDPFR[63:32]`: 45 R587. The data is discarded. -/
def execWrEdpfrHi (_d : Word) (ad : AddrDesc) (s : State) : Result :=
  .next (writeFeature .edpfr s.coreReadable ad s)

/-- `RD EDAA32PFR[31:0]`: 42 R357. -/
def execRdEdaa32pfrLo (ad : AddrDesc) (s : State) : Result :=
  .next (readFeature .edaa32pfr s.coreReadable false (aa32pfr s) ad s)

/-- `WR EDAA32PFR[31:0]`: 42 R358. The data is discarded. -/
def execWrEdaa32pfrLo (_d : Word) (ad : AddrDesc) (s : State) : Result :=
  .next (writeFeature .edaa32pfr s.coreReadable ad s)

/-- `RD EDAA32PFR[63:32]`: 42 R357. -/
def execRdEdaa32pfrHi (ad : AddrDesc) (s : State) : Result :=
  .next (readFeature .edaa32pfr s.coreReadable true (aa32pfr s) ad s)

/-- `WR EDAA32PFR[63:32]`: 42 R358. The data is discarded. -/
def execWrEdaa32pfrHi (_d : Word) (ad : AddrDesc) (s : State) : Result :=
  .next (writeFeature .edaa32pfr s.coreReadable ad s)

/-- `RD EDDFR[31:0]`: 43 R440. -/
def execRdEddfrLo (ad : AddrDesc) (s : State) : Result :=
  .next (readFeature .eddfr s.coreReadable false (dfr s) ad s)

/-- `WR EDDFR[31:0]`: 43 R441. The data is discarded. -/
def execWrEddfrLo (_d : Word) (ad : AddrDesc) (s : State) : Result :=
  .next (writeFeature .eddfr s.coreReadable ad s)

/-- `RD EDDFR[63:32]`: 43 R440. -/
def execRdEddfrHi (ad : AddrDesc) (s : State) : Result :=
  .next (readFeature .eddfr s.coreReadable true (dfr s) ad s)

/-- `WR EDDFR[63:32]`: 43 R441. The data is discarded. -/
def execWrEddfrHi (_d : Word) (ad : AddrDesc) (s : State) : Result :=
  .next (writeFeature .eddfr s.coreReadable ad s)

/-- `RD EDDFR1[31:0]`: 43 R452. -/
def execRdEddfr1Lo (ad : AddrDesc) (s : State) : Result :=
  .next (readFeature .eddfr1 (s.coreReadableNonzero (dfr1 s)) false (dfr1 s) ad s)

/-- `WR EDDFR1[31:0]`: 43 R453. The data is discarded. -/
def execWrEddfr1Lo (_d : Word) (ad : AddrDesc) (s : State) : Result :=
  .next (writeFeature .eddfr1 (s.coreReadableNonzero (dfr1 s)) ad s)

/-- `RD EDDFR1[63:32]`: 43 R452. -/
def execRdEddfr1Hi (ad : AddrDesc) (s : State) : Result :=
  .next (readFeature .eddfr1 (s.coreReadableNonzero (dfr1 s)) true (dfr1 s) ad s)

/-- `WR EDDFR1[63:32]`: 43 R453. The data is discarded. -/
def execWrEddfr1Hi (_d : Word) (ad : AddrDesc) (s : State) : Result :=
  .next (writeFeature .eddfr1 (s.coreReadableNonzero (dfr1 s)) ad s)

/-- `RD EDDFR2[31:0]`: 43 R462. -/
def execRdEddfr2Lo (ad : AddrDesc) (s : State) : Result :=
  .next (readFeature .eddfr2 (s.coreReadableNonzero (dfr2 s)) false (dfr2 s) ad s)

/-- `WR EDDFR2[31:0]`: 43 R463. The data is discarded. -/
def execWrEddfr2Lo (_d : Word) (ad : AddrDesc) (s : State) : Result :=
  .next (writeFeature .eddfr2 (s.coreReadableNonzero (dfr2 s)) ad s)

/-- `RD EDDFR2[63:32]`: 43 R462. -/
def execRdEddfr2Hi (ad : AddrDesc) (s : State) : Result :=
  .next (readFeature .eddfr2 (s.coreReadableNonzero (dfr2 s)) true (dfr2 s) ad s)

/-- `WR EDDFR2[63:32]`: 43 R463. The data is discarded. -/
def execWrEddfr2Hi (_d : Word) (ad : AddrDesc) (s : State) : Result :=
  .next (writeFeature .eddfr2 (s.coreReadableNonzero (dfr2 s)) ad s)

end Sys2Proof.Machine
end

