-- ==== Sys2Proof/Machine/Lock.lean ====
section
/-!
DEFINITION. The locks: EDLAR and EDLSR, the Software Lock (45_ed_lock_pcsr_pfr_pidr.md R550 to R563), and OSLAR_EL1, the
OS Lock (47 R770 to R774).
-/

namespace Sys2Proof.Machine

/-- The key that clears the Software Lock (45 R551). -/
def lockKey : Word := 0xC5ACCE55

/-- `WR EDLAR`: 45 R553. Only a memory-mapped access works the lock (the spec's decision D29, notes/assumptions/55.md). -/
def execWrEdlar (d : Word) (ad : AddrDesc) (s : State) : Result :=
  .next
    (writeReg .coreOff .writeOnlyUnlocked ad s fun t =>
      if t.cfg.hasSoftwareLock && ad.memoryMapped then { t with lock := { t.lock with slk := d != lockKey } } else t)

/-- `RD EDLAR`: 45 R554. WO, or RES0 without the Software Lock. -/
def execRdEdlar (ad : AddrDesc) (s : State) : Result :=
  .next
    (if s.cfg.hasSoftwareLock then readReg .coreOff .writeOnlyUnlocked ad s id
    else readValue .coreOff .readOnly ad s fun _ => 0)

/-- The read value of EDLSR (45 R559, R562). -/
def edlsrValue (ad : AddrDesc) (s : State) : Word :=
  if s.cfg.hasSoftwareLock && ad.memoryMapped then bitAt 1 s.lock.slk ||| bitAt 0 true else 0

/-- `RD EDLSR`: 45 R562. -/
def execRdEdlsr (ad : AddrDesc) (s : State) : Result := .next (readIdent (edlsrValue ad) ad s)

/-- `WR EDLSR`: 45 R563. The data is discarded. -/
def execWrEdlsr (_d : Word) (ad : AddrDesc) (s : State) : Result := .next (writeIdent ad s)

/-- `WR OSLAR_EL1`: 47 R773. -/
def execWrOslar (d : Word) (ad : AddrDesc) (s : State) : Result :=
  .next (writeReg .oslar .writeOnly ad s fun t => t.writeOsLock (d.getLsbD 0))

/-- `RD OSLAR_EL1`: 47 R774. WO or WI: the read returns UNKNOWN. -/
def execRdOslar (ad : AddrDesc) (s : State) : Result := .next (readReg .oslar .writeOnly ad s id)

end Sys2Proof.Machine
end

