-- ==== Sys2Proof/Machine/Power.lean ====
section
/-!
DEFINITION. Power, reset and sticky status: EDPRCR, EDPRSR, EDRCR (46_ed_power_reset.md R620 to R674).
-/

namespace Sys2Proof.Machine

/-! ## EDPRCR -/

/-- The Core power domain is off and the register is still reachable (46 head, `off`). -/
def State.coreOffReachable (s : State) : Bool := !s.cfg.dbg.doPD && !s.powered

/-- npd_unknown: access to CORENPDRQ is UNKNOWN/WI (46 R627). -/
def State.npdUnknown (s : State) : Bool :=
  s.osLock || (!s.cfg.dbg.doPD && (!s.powered || s.doubleLock))

/-- cwrr_ignored (46 R624). FEAT_Secure is SecureImpl. A change of the authentication may show late (20_memory.md R162). -/
def State.cwrrIgnored (s : State) (ad : AddrDesc) : Bool :=
  s.cfg.sys.rme || s.osLock || s.softLock ad || (!s.cfg.dbg.doPD && (!s.powered || s.doubleLock)) ||
    (if s.cfg.pe.secureImpl then !s.authSeen.secureInvasive else !s.authSeen.invasive)

/-- The read value of EDPRCR (46 R630); CWRR reads 0. -/
def edprcrValue (s : State) : Word :=
  bitAt 3 s.corepurq |||
    bitAt 0 (if s.npdUnknown then (s.free32 .prcr).getLsbD 0 else s.corenpdrq) |||
    (if s.cfg.opt.res0Storage then s.ctl.edprcr &&& edprcrReserved s.cfg else 0)

/-- The write of EDPRCR once the ladder admits it (46 R631). request_warm_reset() makes a Warm reset eligible as a later
step of the reset controller, unless CWRR_extent is "ignored". -/
def writeEdprcrFields (ad : AddrDesc) (d : Word) (s : State) : State :=
  let mask :=
    maskIf (!s.cfg.dbg.doPD) (maskAt 3 1) ||| maskIf (!s.npdUnknown) (maskAt 0 1) |||
      maskIf s.cfg.opt.res0Storage (edprcrReserved s.cfg)
  let request := d.getLsbD 1 && !s.cwrrIgnored ad && s.cfg.opt.cwrrExtent != .ignored
  { s with
    ctl := { s.ctl with edprcr := merge mask s.ctl.edprcr d }
    power := { s.power with warmResetRequest := s.power.warmResetRequest || request } }

/-- `RD EDPRCR`: 46 R630. -/
def execRdEdprcr (ad : AddrDesc) (s : State) : Result := .next (readValue .coreOff .readWrite ad s edprcrValue)

/-- `WR EDPRCR`: 46 R631. -/
def execWrEdprcr (d : Word) (ad : AddrDesc) (s : State) : Result :=
  .next (writeReg .coreOff .readWrite ad s (writeEdprcrFields ad d))

/-! ## EDPRSR -/

/-- FEAT_DoubleLock is implemented, the PE is in reset state, and it entered reset state with the OS Double Lock locked:
R, PU, DLK and SPD have CONSTRAINED UNPREDICTABLE values (46 R657, R659, 70 R864, 93_implementation_defined.md U60). -/
def State.lockedReset (s : State) : Bool :=
  s.cfg.dbg.doubleLock && s.power.inReset && s.power.resetWithDoubleLock

/-- The access-disable value of a status field (46 R648): the MDCR_EL3 control with FEAT_RME, else the function for an access
of the Security state `ss`. With FEAT_RME and without EL3 the source does not say: the function is used, and EDADE, EPMADE
and ETADE show the inputs of their names (DEDUCED, notes/assumptions/39.md). -/
def State.accessDisable (s : State) (control : Bool) (f : SecState → Bool) (ss : SecState) : Bool :=
  if s.cfg.sys.rme && s.cfg.pe.haveEL3 then control else !f ss

/-- The Security state for which EDAD and EPMAD report the access (46 R646, R647): Non-secure with FEAT_Debugv8p4, else that
of this access. ETAD reports Non-secure accesses always: the table of R645 has no FEAT_Debugv8p4 term (DEDUCED,
notes/assumptions/39.md). -/
def State.reportedState (s : State) (ad : AddrDesc) : SecState :=
  if s.cfg.sys.rme || s.cfg.dbg.debugv8p4 then .nonSecure else ad.ss

/-- The OS Lock hides EDAD and SDAD: without FEAT_Debugv8p2, where OSLAR_EL1 writes do not return an error (46 R662). -/
def State.oslX (s : State) : Bool :=
  s.osLock && !s.cfg.dbg.debugv8p2 && !s.cfg.opt.oslarErrorWhenDisallowed

/-- EDPRSR.SPD (46 R658, R662; 93_implementation_defined.md U60). -/
def spdValue (u : Bool) (s : State) : Bool :=
  if s.coreOffReachable then false
  else if s.lockedReset then u
  else if s.powered && s.doubleLock then
    if s.cfg.dbg.debugv8p2 || s.cfg.opt.dlkViewPU0 then false else u
  else if s.power.core = .retention && !s.cfg.dbg.doPD then s.cfg.opt.spdInRetention.getD u
  else s.sticky.spd

/-- EDPRSR.PU (46 R659). -/
def puValue (u : Bool) (s : State) : Bool :=
  if s.cfg.dbg.doPD then true
  else if s.lockedReset then u
  else if s.cfg.dbg.debugv8p2 then s.powered && !s.doubleLock
  else if !s.powered then false
  else if s.doubleLock then !s.cfg.opt.dlkViewPU0
  else true

/-- EDPRSR.DLK (46 R653). -/
def dlkValue (u : Bool) (s : State) : Bool :=
  if s.cfg.dbg.debugv8p4 || !s.cfg.dbg.doubleLock then false
  else if s.cfg.dbg.debugv8p2 then (if !s.powered || s.doubleLock || s.lockedReset then u else false)
  else if !s.powered || s.lockedReset then u
  else if !s.doubleLock then false
  else if s.cfg.opt.dlkViewPU0 then u
  else true

/-- The read value of EDPRSR (46 R662); `u k` is the UNKNOWN value of bit k. -/
def edprsrValue (ad : AddrDesc) (s : State) : Word :=
  let c := s.cfg
  let u := fun k => (s.free32 .prsr).getLsbD k
  let off := s.coreOffReachable
  let rst := s.power.inReset
  let dl := s.doubleLock
  let trace := c.sys.trcExt && c.sys.trbe
  let unk := fun (k : Nat) (hidden value : Bool) => bitAt k (if hidden then u k else value)
  let m := s.env.mdcr3
  let v8p4 := c.dbg.debugv8p4
  maskIf (c.sys.rme && c.sys.pmuv3Ext) (unk 16 (off || rst) m.epmade) |||
  maskIf (c.sys.rme && trace) (unk 15 (off || rst) m.etade) |||
  maskIf c.sys.rme (unk 14 (off || rst) m.edade) |||
  maskIf trace (unk 13 off s.sticky.stad) |||
  maskIf trace (unk 12 (off || rst) (s.accessDisable m.etad s.allowTraceFor .nonSecure)) |||
  unk 11 (off || dl) s.sticky.sdr |||
  maskIf c.sys.pmuv3Ext (unk 10 (off || dl || (s.osLock && !v8p4)) s.sticky.spmad) |||
  (if c.sys.pmuv3Ext then
      unk 9 (off || rst || (!c.sys.rme && (dl || (!v8p4 && s.osLock))))
        (s.accessDisable m.epmad s.allowPMUFor (s.reportedState ad))
    else maskIf c.sys.pmuv3 (bitAt 9 (u 9))) |||
  unk 8 (off || rst || dl || (!v8p4 && s.oslX)) s.sticky.sdad |||
  unk 7 (off || rst || (!c.sys.rme && (dl || (!v8p4 && s.oslX))))
    (s.accessDisable m.edad s.allowDebugFor (s.reportedState ad)) |||
  bitAt 6 (dlkValue (u 6) s) |||
  unk 5 (off || rst || dl) s.lock.oslk |||
  unk 4 off s.hal.halted |||
  unk 3 (off || dl) s.sticky.sr |||
  unk 2 (off || dl || s.lockedReset) s.power.inReset |||
  bitAt 1 (spdValue (u 1) s) |||
  bitAt 0 (puValue (u 0) s)

/-- A sticky bit after a read of EDPRSR: cleared, or under the OS Double Lock perhaps not (46 R640;
93_implementation_defined.md U59, which names STAD too, where 46 R662 clears it; notes/assumptions/25.md). -/
def State.afterRead (s : State) (k : Nat) (b : Bool) : Bool := b && s.doubleLock && s.flip (.prsrClear k)

/-- The sticky bits after a read of EDPRSR (46 R640, R660, R662): with the Core powered, and not by a memory-mapped read
under the Software Lock (D32). -/
def State.clearSticky (s : State) (ad : AddrDesc) : StickyBits :=
  if s.powered && !s.softLock ad then
    { stad := s.afterRead 13 s.sticky.stad
      sdr := s.afterRead 11 s.sticky.sdr
      spmad := s.afterRead 10 s.sticky.spmad
      sdad := s.afterRead 8 s.sticky.sdad
      sr := if s.power.inReset then s.sticky.sr else s.afterRead 3 s.sticky.sr
      spd := s.afterRead 1 s.sticky.spd }
  else s.sticky

/-- `RD EDPRSR`: 46 R662. -/
def execRdEdprsr (ad : AddrDesc) (s : State) : Result :=
  .next
    (readReg .coreOff .readOnly ad s fun t =>
      { t with sticky := t.clearSticky ad, response := .okRead (edprsrValue ad t) })

/-- `WR EDPRSR`: 46 R663. The data is discarded and nothing is cleared. -/
def execWrEdprsr (_d : Word) (ad : AddrDesc) (s : State) : Result := .next (writeReg .coreOff .readOnly ad s id)

/-! ## EDRCR -/

/-- The actions of a write of EDRCR (46 R670 to R673). -/
def writeEdrcrActions (d : Word) (s : State) : State :=
  let w := if d.getLsbD 3 then edscrClearPipeAdv s.ctl.edscr else s.ctl.edscr
  let w := if d.getLsbD 2 then edscrClearErrors s.hal.halted w else w
  { s with
    ctl := { s.ctl with edscr := w }
    hal := { s.hal with imprecise := s.hal.imprecise || (d.getLsbD 4 && s.cfg.has.cbrrq) } }

/-- `WR EDRCR`: 46 R673. -/
def execWrEdrcr (d : Word) (ad : AddrDesc) (s : State) : Result :=
  .next (writeReg .locked .writeOnly ad s (writeEdrcrActions d))

/-- `RD EDRCR`: 46 R674. WO or WI: the read returns UNKNOWN. -/
def execRdEdrcr (ad : AddrDesc) (s : State) : Result := .next (readReg .locked .writeOnly ad s id)

end Sys2Proof.Machine
end

