-- ==== Sys2Proof/Machine/Dispatch.lean ====
section
/-! DEFINITION. Every transaction to its meaning: one arm for each constructor of `Instr`. -/

namespace Sys2Proof.Machine

/-- The effect of one transaction. -/
def exec (i : Instr) (s : State) : Host.Outcome State Fault Refusal :=
  match i with
  | .rdEdesr ad => Sys2Proof.Machine.execRdEdesr ad s
  | .wrEdesr d ad => Sys2Proof.Machine.execWrEdesr d ad s
  | .rdEdecr ad => Sys2Proof.Machine.execRdEdecr ad s
  | .wrEdecr d ad => Sys2Proof.Machine.execWrEdecr d ad s
  | .rdEdscr2 ad => Sys2Proof.Machine.execRdEdscr2 ad s
  | .wrEdscr2 d ad => Sys2Proof.Machine.execWrEdscr2 d ad s
  | .rdEdwarLo ad => Sys2Proof.Machine.execRdEdwarLo ad s
  | .wrEdwarLo d ad => Sys2Proof.Machine.execWrEdwarLo d ad s
  | .rdEdwarHi ad => Sys2Proof.Machine.execRdEdwarHi ad s
  | .wrEdwarHi d ad => Sys2Proof.Machine.execWrEdwarHi d ad s
  | .rdEdhsrLo ad => Sys2Proof.Machine.execRdEdhsrLo ad s
  | .wrEdhsrLo d ad => Sys2Proof.Machine.execWrEdhsrLo d ad s
  | .rdEdhsrHi ad => Sys2Proof.Machine.execRdEdhsrHi ad s
  | .wrEdhsrHi d ad => Sys2Proof.Machine.execWrEdhsrHi d ad s
  | .rdDbgdtrrx ad => Sys2Proof.Machine.execRdDbgdtrrx ad s
  | .wrDbgdtrrx d ad => Sys2Proof.Machine.execWrDbgdtrrx d ad s
  | .rdEditr ad => Sys2Proof.Machine.execRdEditr ad s
  | .wrEditr d ad => Sys2Proof.Machine.execWrEditr d ad s
  | .rdEdscr ad => Sys2Proof.Machine.execRdEdscr ad s
  | .wrEdscr d ad => Sys2Proof.Machine.execWrEdscr d ad s
  | .rdDbgdtrtx ad => Sys2Proof.Machine.execRdDbgdtrtx ad s
  | .wrDbgdtrtx d ad => Sys2Proof.Machine.execWrDbgdtrtx d ad s
  | .rdEdrcr ad => Sys2Proof.Machine.execRdEdrcr ad s
  | .wrEdrcr d ad => Sys2Proof.Machine.execWrEdrcr d ad s
  | .rdEdacr ad => Sys2Proof.Machine.execRdEdacr ad s
  | .wrEdacr d ad => Sys2Proof.Machine.execWrEdacr d ad s
  | .rdEdeccr ad => Sys2Proof.Machine.execRdEdeccr ad s
  | .wrEdeccr d ad => Sys2Proof.Machine.execWrEdeccr d ad s
  | .rdEdpcsrLo ad => Sys2Proof.Machine.execRdEdpcsrLo ad s
  | .wrEdpcsrLo d ad => Sys2Proof.Machine.execWrEdpcsrLo d ad s
  | .rdEdcidsr ad => Sys2Proof.Machine.execRdEdcidsr ad s
  | .wrEdcidsr d ad => Sys2Proof.Machine.execWrEdcidsr d ad s
  | .rdEdvidsr ad => Sys2Proof.Machine.execRdEdvidsr ad s
  | .wrEdvidsr d ad => Sys2Proof.Machine.execWrEdvidsr d ad s
  | .rdEdpcsrHi ad => Sys2Proof.Machine.execRdEdpcsrHi ad s
  | .wrEdpcsrHi d ad => Sys2Proof.Machine.execWrEdpcsrHi d ad s
  | .rdOslar ad => Sys2Proof.Machine.execRdOslar ad s
  | .wrOslar d ad => Sys2Proof.Machine.execWrOslar d ad s
  | .rdEdprcr ad => Sys2Proof.Machine.execRdEdprcr ad s
  | .wrEdprcr d ad => Sys2Proof.Machine.execWrEdprcr d ad s
  | .rdEdprsr ad => Sys2Proof.Machine.execRdEdprsr ad s
  | .wrEdprsr d ad => Sys2Proof.Machine.execWrEdprsr d ad s
  | .rdDbgbvrLo n ad => Sys2Proof.Machine.execRdDbgbvrLo n ad s
  | .wrDbgbvrLo n d ad => Sys2Proof.Machine.execWrDbgbvrLo n d ad s
  | .rdDbgbvrHi n ad => Sys2Proof.Machine.execRdDbgbvrHi n ad s
  | .wrDbgbvrHi n d ad => Sys2Proof.Machine.execWrDbgbvrHi n d ad s
  | .rdDbgbcrLo n ad => Sys2Proof.Machine.execRdDbgbcrLo n ad s
  | .wrDbgbcrLo n d ad => Sys2Proof.Machine.execWrDbgbcrLo n d ad s
  | .rdDbgbcrHi n ad => Sys2Proof.Machine.execRdDbgbcrHi n ad s
  | .wrDbgbcrHi n d ad => Sys2Proof.Machine.execWrDbgbcrHi n d ad s
  | .rdDbgwvrLo n ad => Sys2Proof.Machine.execRdDbgwvrLo n ad s
  | .wrDbgwvrLo n d ad => Sys2Proof.Machine.execWrDbgwvrLo n d ad s
  | .rdDbgwvrHi n ad => Sys2Proof.Machine.execRdDbgwvrHi n ad s
  | .wrDbgwvrHi n d ad => Sys2Proof.Machine.execWrDbgwvrHi n d ad s
  | .rdDbgwcrLo n ad => Sys2Proof.Machine.execRdDbgwcrLo n ad s
  | .wrDbgwcrLo n d ad => Sys2Proof.Machine.execWrDbgwcrLo n d ad s
  | .rdDbgwcrHi n ad => Sys2Proof.Machine.execRdDbgwcrHi n ad s
  | .wrDbgwcrHi n d ad => Sys2Proof.Machine.execWrDbgwcrHi n d ad s
  | .rdMidr ad => Sys2Proof.Machine.execRdMidr ad s
  | .wrMidr d ad => Sys2Proof.Machine.execWrMidr d ad s
  | .rdEdpfrLo ad => Sys2Proof.Machine.execRdEdpfrLo ad s
  | .wrEdpfrLo d ad => Sys2Proof.Machine.execWrEdpfrLo d ad s
  | .rdEdpfrHi ad => Sys2Proof.Machine.execRdEdpfrHi ad s
  | .wrEdpfrHi d ad => Sys2Proof.Machine.execWrEdpfrHi d ad s
  | .rdEddfrLo ad => Sys2Proof.Machine.execRdEddfrLo ad s
  | .wrEddfrLo d ad => Sys2Proof.Machine.execWrEddfrLo d ad s
  | .rdEddfrHi ad => Sys2Proof.Machine.execRdEddfrHi ad s
  | .wrEddfrHi d ad => Sys2Proof.Machine.execWrEddfrHi d ad s
  | .rdEddfr1Lo ad => Sys2Proof.Machine.execRdEddfr1Lo ad s
  | .wrEddfr1Lo d ad => Sys2Proof.Machine.execWrEddfr1Lo d ad s
  | .rdEddfr1Hi ad => Sys2Proof.Machine.execRdEddfr1Hi ad s
  | .wrEddfr1Hi d ad => Sys2Proof.Machine.execWrEddfr1Hi d ad s
  | .rdEddfr2Lo ad => Sys2Proof.Machine.execRdEddfr2Lo ad s
  | .wrEddfr2Lo d ad => Sys2Proof.Machine.execWrEddfr2Lo d ad s
  | .rdEddfr2Hi ad => Sys2Proof.Machine.execRdEddfr2Hi ad s
  | .wrEddfr2Hi d ad => Sys2Proof.Machine.execWrEddfr2Hi d ad s
  | .rdEdaa32pfrLo ad => Sys2Proof.Machine.execRdEdaa32pfrLo ad s
  | .wrEdaa32pfrLo d ad => Sys2Proof.Machine.execWrEdaa32pfrLo d ad s
  | .rdEdaa32pfrHi ad => Sys2Proof.Machine.execRdEdaa32pfrHi ad s
  | .wrEdaa32pfrHi d ad => Sys2Proof.Machine.execWrEdaa32pfrHi d ad s
  | .rdEditctrl ad => Sys2Proof.Machine.execRdEditctrl ad s
  | .wrEditctrl d ad => Sys2Proof.Machine.execWrEditctrl d ad s
  | .rdDbgclaimset ad => Sys2Proof.Machine.execRdDbgclaimset ad s
  | .wrDbgclaimset d ad => Sys2Proof.Machine.execWrDbgclaimset d ad s
  | .rdDbgclaimclr ad => Sys2Proof.Machine.execRdDbgclaimclr ad s
  | .wrDbgclaimclr d ad => Sys2Proof.Machine.execWrDbgclaimclr d ad s
  | .rdEddevaff0 ad => Sys2Proof.Machine.execRdEddevaff0 ad s
  | .wrEddevaff0 d ad => Sys2Proof.Machine.execWrEddevaff0 d ad s
  | .rdEddevaff1 ad => Sys2Proof.Machine.execRdEddevaff1 ad s
  | .wrEddevaff1 d ad => Sys2Proof.Machine.execWrEddevaff1 d ad s
  | .rdEdlar ad => Sys2Proof.Machine.execRdEdlar ad s
  | .wrEdlar d ad => Sys2Proof.Machine.execWrEdlar d ad s
  | .rdEdlsr ad => Sys2Proof.Machine.execRdEdlsr ad s
  | .wrEdlsr d ad => Sys2Proof.Machine.execWrEdlsr d ad s
  | .rdDbgauthstatus ad => Sys2Proof.Machine.execRdDbgauthstatus ad s
  | .wrDbgauthstatus d ad => Sys2Proof.Machine.execWrDbgauthstatus d ad s
  | .rdEddevarch ad => Sys2Proof.Machine.execRdEddevarch ad s
  | .wrEddevarch d ad => Sys2Proof.Machine.execWrEddevarch d ad s
  | .rdEddevid2 ad => Sys2Proof.Machine.execRdEddevid2 ad s
  | .wrEddevid2 d ad => Sys2Proof.Machine.execWrEddevid2 d ad s
  | .rdEddevid1 ad => Sys2Proof.Machine.execRdEddevid1 ad s
  | .wrEddevid1 d ad => Sys2Proof.Machine.execWrEddevid1 d ad s
  | .rdEddevid ad => Sys2Proof.Machine.execRdEddevid ad s
  | .wrEddevid d ad => Sys2Proof.Machine.execWrEddevid d ad s
  | .rdEddevtype ad => Sys2Proof.Machine.execRdEddevtype ad s
  | .wrEddevtype d ad => Sys2Proof.Machine.execWrEddevtype d ad s
  | .rdEdpidr4 ad => Sys2Proof.Machine.execRdEdpidr4 ad s
  | .wrEdpidr4 d ad => Sys2Proof.Machine.execWrEdpidr4 d ad s
  | .rdEdpidr0 ad => Sys2Proof.Machine.execRdEdpidr0 ad s
  | .wrEdpidr0 d ad => Sys2Proof.Machine.execWrEdpidr0 d ad s
  | .rdEdpidr1 ad => Sys2Proof.Machine.execRdEdpidr1 ad s
  | .wrEdpidr1 d ad => Sys2Proof.Machine.execWrEdpidr1 d ad s
  | .rdEdpidr2 ad => Sys2Proof.Machine.execRdEdpidr2 ad s
  | .wrEdpidr2 d ad => Sys2Proof.Machine.execWrEdpidr2 d ad s
  | .rdEdpidr3 ad => Sys2Proof.Machine.execRdEdpidr3 ad s
  | .wrEdpidr3 d ad => Sys2Proof.Machine.execWrEdpidr3 d ad s
  | .rdEdcidr0 ad => Sys2Proof.Machine.execRdEdcidr0 ad s
  | .wrEdcidr0 d ad => Sys2Proof.Machine.execWrEdcidr0 d ad s
  | .rdEdcidr1 ad => Sys2Proof.Machine.execRdEdcidr1 ad s
  | .wrEdcidr1 d ad => Sys2Proof.Machine.execWrEdcidr1 d ad s
  | .rdEdcidr2 ad => Sys2Proof.Machine.execRdEdcidr2 ad s
  | .wrEdcidr2 d ad => Sys2Proof.Machine.execWrEdcidr2 d ad s
  | .rdEdcidr3 ad => Sys2Proof.Machine.execRdEdcidr3 ad s
  | .wrEdcidr3 d ad => Sys2Proof.Machine.execWrEdcidr3 d ad s

end Sys2Proof.Machine
end

