-- ==== Sys2Proof/Decode.lean ====
section
/-!
DEFINITION. The decoder and, after it, the encoder. The spec packs a transaction's direction and offset into a 13-bit
key (30_encoding.md R180, R183, R184). The frame that carries the key with the operands is the model's own (DESIGN
CHOICE, notes/assumptions/2.md): seven bytes,

  bytes 0, 1   the key, bit 0 of the key in bit 0 of byte 0; bits [15:13] are 0
  byte 2       the access descriptor: bit 0 memory_mapped, bits [2:1] the Security state
               (0 Non-secure, 1 Secure, 2 Realm, 3 Root), bits [7:3] are 0
  bytes 3..6   the written word, least significant byte first; 0 on a read

so that operand bytes of zeros are the defaults of R182: external interface, Non-secure.
-/

namespace Sys2Proof

/-- Why the decoder refuses a frame. -/
inductive DecodeError where
  /-- fewer than seven bytes: no transaction (R180) -/
  | truncated
  /-- bits [15:13] of the key are not 0: the key has 13 bits (R180) -/
  | reservedKeyBits
  /-- offset bits [1:0] are not 0 (20_memory.md R145) -/
  | misaligned
  /-- no row of R183 has this offset: case (c) of R190 -/
  | unlistedOffset
  /-- bits [7:3] of the descriptor byte are not 0 -/
  | reservedDescriptor
  /-- a read carries data (R180: "absent on a read") -/
  | dataOnRead
deriving DecidableEq, Repr

/-! ## Bit fields and byte order -/

/-- Four bytes, least significant first, as a word. -/
def wordOfBytes (b0 b1 b2 b3 : Byte) : Word := b3 ++ b2 ++ b1 ++ b0

/-- Byte `k` of a word, byte 0 the least significant. -/
def byteOfWord (w : Word) (k : Nat) : Byte := w.extractLsb' (8 * k) 8

/-- The Security state coded by bits [2:1] of the descriptor byte. -/
def secStateOfBits (b : BitVec 2) : SecState :=
  if b = 0 then .nonSecure else if b = 1 then .secure else if b = 2 then .realm else .root

/-- The descriptor byte's code of a Security state. -/
def bitsOfSecState : SecState → BitVec 2
  | .nonSecure => 0
  | .secure => 1
  | .realm => 2
  | .root => 3

/-- The access descriptor of a descriptor byte whose bits [7:3] are 0. -/
def addrDescOfByte (b : Byte) : AddrDesc where
  memoryMapped := b.getLsbD 0
  ss := secStateOfBits (b.extractLsb' 1 2)

/-- The descriptor byte of an access descriptor. -/
def byteOfAddrDesc (ad : AddrDesc) : Byte :=
  (bitsOfSecState ad.ss).setWidth 8 <<< 1 ||| (BitVec.ofBool ad.memoryMapped).setWidth 8

/-! ## The offset map -/

/-- The two transactions on one register word (R183: a read row and a write row). -/
structure WordRow where
  rd : AddrDesc → Instr
  wr : Word → AddrDesc → Instr

/-- The FIXED rows of R183, part 1 of 3. -/
def fixedRowsLow : List (BitVec 12 × WordRow) :=
  [ (0x020, ⟨.rdEdesr, .wrEdesr⟩),
    (0x024, ⟨.rdEdecr, .wrEdecr⟩),
    (0x028, ⟨.rdEdscr2, .wrEdscr2⟩),
    (0x030, ⟨.rdEdwarLo, .wrEdwarLo⟩),
    (0x034, ⟨.rdEdwarHi, .wrEdwarHi⟩),
    (0x038, ⟨.rdEdhsrLo, .wrEdhsrLo⟩),
    (0x03C, ⟨.rdEdhsrHi, .wrEdhsrHi⟩),
    (0x080, ⟨.rdDbgdtrrx, .wrDbgdtrrx⟩),
    (0x084, ⟨.rdEditr, .wrEditr⟩),
    (0x088, ⟨.rdEdscr, .wrEdscr⟩),
    (0x08C, ⟨.rdDbgdtrtx, .wrDbgdtrtx⟩),
    (0x090, ⟨.rdEdrcr, .wrEdrcr⟩),
    (0x094, ⟨.rdEdacr, .wrEdacr⟩),
    (0x098, ⟨.rdEdeccr, .wrEdeccr⟩),
    (0x0A0, ⟨.rdEdpcsrLo, .wrEdpcsrLo⟩),
    (0x0A4, ⟨.rdEdcidsr, .wrEdcidsr⟩),
    (0x0A8, ⟨.rdEdvidsr, .wrEdvidsr⟩),
    (0x0AC, ⟨.rdEdpcsrHi, .wrEdpcsrHi⟩),
    (0x300, ⟨.rdOslar, .wrOslar⟩),
    (0x310, ⟨.rdEdprcr, .wrEdprcr⟩),
    (0x314, ⟨.rdEdprsr, .wrEdprsr⟩) ]

/-- The FIXED rows of R183, part 2 of 3. -/
def fixedRowsFeature : List (BitVec 12 × WordRow) :=
  [ (0xD00, ⟨.rdMidr, .wrMidr⟩),
    (0xD20, ⟨.rdEdpfrLo, .wrEdpfrLo⟩),
    (0xD24, ⟨.rdEdpfrHi, .wrEdpfrHi⟩),
    (0xD28, ⟨.rdEddfrLo, .wrEddfrLo⟩),
    (0xD2C, ⟨.rdEddfrHi, .wrEddfrHi⟩),
    (0xD48, ⟨.rdEddfr1Lo, .wrEddfr1Lo⟩),
    (0xD4C, ⟨.rdEddfr1Hi, .wrEddfr1Hi⟩),
    (0xD50, ⟨.rdEddfr2Lo, .wrEddfr2Lo⟩),
    (0xD54, ⟨.rdEddfr2Hi, .wrEddfr2Hi⟩),
    (0xD60, ⟨.rdEdaa32pfrLo, .wrEdaa32pfrLo⟩),
    (0xD64, ⟨.rdEdaa32pfrHi, .wrEdaa32pfrHi⟩),
    (0xF00, ⟨.rdEditctrl, .wrEditctrl⟩),
    (0xFA0, ⟨.rdDbgclaimset, .wrDbgclaimset⟩),
    (0xFA4, ⟨.rdDbgclaimclr, .wrDbgclaimclr⟩),
    (0xFA8, ⟨.rdEddevaff0, .wrEddevaff0⟩),
    (0xFAC, ⟨.rdEddevaff1, .wrEddevaff1⟩),
    (0xFB0, ⟨.rdEdlar, .wrEdlar⟩) ]

/-- The FIXED rows of R183, part 3 of 3. -/
def fixedRowsIdent : List (BitVec 12 × WordRow) :=
  [ (0xFB4, ⟨.rdEdlsr, .wrEdlsr⟩),
    (0xFB8, ⟨.rdDbgauthstatus, .wrDbgauthstatus⟩),
    (0xFBC, ⟨.rdEddevarch, .wrEddevarch⟩),
    (0xFC0, ⟨.rdEddevid2, .wrEddevid2⟩),
    (0xFC4, ⟨.rdEddevid1, .wrEddevid1⟩),
    (0xFC8, ⟨.rdEddevid, .wrEddevid⟩),
    (0xFCC, ⟨.rdEddevtype, .wrEddevtype⟩),
    (0xFD0, ⟨.rdEdpidr4, .wrEdpidr4⟩),
    (0xFE0, ⟨.rdEdpidr0, .wrEdpidr0⟩),
    (0xFE4, ⟨.rdEdpidr1, .wrEdpidr1⟩),
    (0xFE8, ⟨.rdEdpidr2, .wrEdpidr2⟩),
    (0xFEC, ⟨.rdEdpidr3, .wrEdpidr3⟩),
    (0xFF0, ⟨.rdEdcidr0, .wrEdcidr0⟩),
    (0xFF4, ⟨.rdEdcidr1, .wrEdcidr1⟩),
    (0xFF8, ⟨.rdEdcidr2, .wrEdcidr2⟩),
    (0xFFC, ⟨.rdEdcidr3, .wrEdcidr3⟩) ]

/-- Every FIXED row of R183, in offset order. -/
def fixedRows : List (BitVec 12 × WordRow) := fixedRowsLow ++ fixedRowsFeature ++ fixedRowsIdent

/-- R184: the array word at an offset in 0x400 to 0x7FF or 0x800 to 0xBFF. Bit 11 tells watchpoints from breakpoints,
bit 3 the control from the value register, bit 2 the high from the low word, bits [9:4] are n. -/
def arrayRow (off : BitVec 12) : WordRow :=
  let n : Index := off.extractLsb' 4 6
  match off.getLsbD 11, off.getLsbD 3, off.getLsbD 2 with
  | false, false, false => ⟨.rdDbgbvrLo n, .wrDbgbvrLo n⟩
  | false, false, true => ⟨.rdDbgbvrHi n, .wrDbgbvrHi n⟩
  | false, true, false => ⟨.rdDbgbcrLo n, .wrDbgbcrLo n⟩
  | false, true, true => ⟨.rdDbgbcrHi n, .wrDbgbcrHi n⟩
  | true, false, false => ⟨.rdDbgwvrLo n, .wrDbgwvrLo n⟩
  | true, false, true => ⟨.rdDbgwvrHi n, .wrDbgwvrHi n⟩
  | true, true, false => ⟨.rdDbgwcrLo n, .wrDbgwcrLo n⟩
  | true, true, true => ⟨.rdDbgwcrHi n, .wrDbgwcrHi n⟩

/-- The offset lies in one of the two arrays (R184). -/
def isArrayOffset (off : BitVec 12) : Bool :=
  off.extractLsb' 10 2 = 1 || off.extractLsb' 10 2 = 2

/-- The register word at an offset, if R183 lists it. -/
def wordRow (off : BitVec 12) : Option WordRow :=
  if isArrayOffset off then some (arrayRow off)
  else (fixedRows.find? fun r => r.1 = off).map (·.2)

/-- The transaction of a key, a descriptor byte and a data word. -/
def decodeParts (key : BitVec 16) (desc : Byte) (data : Word) : Except DecodeError Instr :=
  let off : BitVec 12 := key.extractLsb' 0 12
  if key.extractLsb' 13 3 ≠ 0 then .error .reservedKeyBits
  else if off.extractLsb' 0 2 ≠ 0 then .error .misaligned
  else if desc.extractLsb' 3 5 ≠ 0 then .error .reservedDescriptor
  else
    match wordRow off with
    | none => .error .unlistedOffset
    | some row =>
      if key.getLsbD 12 then .ok (row.wr data (addrDescOfByte desc))
      else if data ≠ 0 then .error .dataOnRead
      else .ok (row.rd (addrDescOfByte desc))

/-- The decoder: the first transaction of a list of bytes, and the bytes after it. -/
def decode : List Byte → Except DecodeError (Instr × List Byte)
  | k0 :: k1 :: a :: d0 :: d1 :: d2 :: d3 :: rest =>
    match decodeParts (k1 ++ k0) a (wordOfBytes d0 d1 d2 d3) with
    | .ok i => .ok (i, rest)
    | .error e => .error e
  | _ => .error .truncated

/-! ## The encoder -/

/-- The key of an array word: direction, the fixed bits of R183's pattern, and n in bits [9:4]. -/
def arrayKey (base : BitVec 13) (n : Index) : BitVec 13 := base ||| (n.setWidth 13 <<< 4)

/-- The 13-bit key of a transaction (R180, R183). -/
def Instr.key : Instr → BitVec 13
  | .rdEdesr _ => 0x0020
  | .wrEdesr _ _ => 0x1020
  | .rdEdecr _ => 0x0024
  | .wrEdecr _ _ => 0x1024
  | .rdEdscr2 _ => 0x0028
  | .wrEdscr2 _ _ => 0x1028
  | .rdEdwarLo _ => 0x0030
  | .wrEdwarLo _ _ => 0x1030
  | .rdEdwarHi _ => 0x0034
  | .wrEdwarHi _ _ => 0x1034
  | .rdEdhsrLo _ => 0x0038
  | .wrEdhsrLo _ _ => 0x1038
  | .rdEdhsrHi _ => 0x003C
  | .wrEdhsrHi _ _ => 0x103C
  | .rdDbgdtrrx _ => 0x0080
  | .wrDbgdtrrx _ _ => 0x1080
  | .rdEditr _ => 0x0084
  | .wrEditr _ _ => 0x1084
  | .rdEdscr _ => 0x0088
  | .wrEdscr _ _ => 0x1088
  | .rdDbgdtrtx _ => 0x008C
  | .wrDbgdtrtx _ _ => 0x108C
  | .rdEdrcr _ => 0x0090
  | .wrEdrcr _ _ => 0x1090
  | .rdEdacr _ => 0x0094
  | .wrEdacr _ _ => 0x1094
  | .rdEdeccr _ => 0x0098
  | .wrEdeccr _ _ => 0x1098
  | .rdEdpcsrLo _ => 0x00A0
  | .wrEdpcsrLo _ _ => 0x10A0
  | .rdEdcidsr _ => 0x00A4
  | .wrEdcidsr _ _ => 0x10A4
  | .rdEdvidsr _ => 0x00A8
  | .wrEdvidsr _ _ => 0x10A8
  | .rdEdpcsrHi _ => 0x00AC
  | .wrEdpcsrHi _ _ => 0x10AC
  | .rdOslar _ => 0x0300
  | .wrOslar _ _ => 0x1300
  | .rdEdprcr _ => 0x0310
  | .wrEdprcr _ _ => 0x1310
  | .rdEdprsr _ => 0x0314
  | .wrEdprsr _ _ => 0x1314
  | .rdDbgbvrLo n _ => arrayKey 0x0400 n
  | .wrDbgbvrLo n _ _ => arrayKey 0x1400 n
  | .rdDbgbvrHi n _ => arrayKey 0x0404 n
  | .wrDbgbvrHi n _ _ => arrayKey 0x1404 n
  | .rdDbgbcrLo n _ => arrayKey 0x0408 n
  | .wrDbgbcrLo n _ _ => arrayKey 0x1408 n
  | .rdDbgbcrHi n _ => arrayKey 0x040C n
  | .wrDbgbcrHi n _ _ => arrayKey 0x140C n
  | .rdDbgwvrLo n _ => arrayKey 0x0800 n
  | .wrDbgwvrLo n _ _ => arrayKey 0x1800 n
  | .rdDbgwvrHi n _ => arrayKey 0x0804 n
  | .wrDbgwvrHi n _ _ => arrayKey 0x1804 n
  | .rdDbgwcrLo n _ => arrayKey 0x0808 n
  | .wrDbgwcrLo n _ _ => arrayKey 0x1808 n
  | .rdDbgwcrHi n _ => arrayKey 0x080C n
  | .wrDbgwcrHi n _ _ => arrayKey 0x180C n
  | .rdMidr _ => 0x0D00
  | .wrMidr _ _ => 0x1D00
  | .rdEdpfrLo _ => 0x0D20
  | .wrEdpfrLo _ _ => 0x1D20
  | .rdEdpfrHi _ => 0x0D24
  | .wrEdpfrHi _ _ => 0x1D24
  | .rdEddfrLo _ => 0x0D28
  | .wrEddfrLo _ _ => 0x1D28
  | .rdEddfrHi _ => 0x0D2C
  | .wrEddfrHi _ _ => 0x1D2C
  | .rdEddfr1Lo _ => 0x0D48
  | .wrEddfr1Lo _ _ => 0x1D48
  | .rdEddfr1Hi _ => 0x0D4C
  | .wrEddfr1Hi _ _ => 0x1D4C
  | .rdEddfr2Lo _ => 0x0D50
  | .wrEddfr2Lo _ _ => 0x1D50
  | .rdEddfr2Hi _ => 0x0D54
  | .wrEddfr2Hi _ _ => 0x1D54
  | .rdEdaa32pfrLo _ => 0x0D60
  | .wrEdaa32pfrLo _ _ => 0x1D60
  | .rdEdaa32pfrHi _ => 0x0D64
  | .wrEdaa32pfrHi _ _ => 0x1D64
  | .rdEditctrl _ => 0x0F00
  | .wrEditctrl _ _ => 0x1F00
  | .rdDbgclaimset _ => 0x0FA0
  | .wrDbgclaimset _ _ => 0x1FA0
  | .rdDbgclaimclr _ => 0x0FA4
  | .wrDbgclaimclr _ _ => 0x1FA4
  | .rdEddevaff0 _ => 0x0FA8
  | .wrEddevaff0 _ _ => 0x1FA8
  | .rdEddevaff1 _ => 0x0FAC
  | .wrEddevaff1 _ _ => 0x1FAC
  | .rdEdlar _ => 0x0FB0
  | .wrEdlar _ _ => 0x1FB0
  | .rdEdlsr _ => 0x0FB4
  | .wrEdlsr _ _ => 0x1FB4
  | .rdDbgauthstatus _ => 0x0FB8
  | .wrDbgauthstatus _ _ => 0x1FB8
  | .rdEddevarch _ => 0x0FBC
  | .wrEddevarch _ _ => 0x1FBC
  | .rdEddevid2 _ => 0x0FC0
  | .wrEddevid2 _ _ => 0x1FC0
  | .rdEddevid1 _ => 0x0FC4
  | .wrEddevid1 _ _ => 0x1FC4
  | .rdEddevid _ => 0x0FC8
  | .wrEddevid _ _ => 0x1FC8
  | .rdEddevtype _ => 0x0FCC
  | .wrEddevtype _ _ => 0x1FCC
  | .rdEdpidr4 _ => 0x0FD0
  | .wrEdpidr4 _ _ => 0x1FD0
  | .rdEdpidr0 _ => 0x0FE0
  | .wrEdpidr0 _ _ => 0x1FE0
  | .rdEdpidr1 _ => 0x0FE4
  | .wrEdpidr1 _ _ => 0x1FE4
  | .rdEdpidr2 _ => 0x0FE8
  | .wrEdpidr2 _ _ => 0x1FE8
  | .rdEdpidr3 _ => 0x0FEC
  | .wrEdpidr3 _ _ => 0x1FEC
  | .rdEdcidr0 _ => 0x0FF0
  | .wrEdcidr0 _ _ => 0x1FF0
  | .rdEdcidr1 _ => 0x0FF4
  | .wrEdcidr1 _ _ => 0x1FF4
  | .rdEdcidr2 _ => 0x0FF8
  | .wrEdcidr2 _ _ => 0x1FF8
  | .rdEdcidr3 _ => 0x0FFC
  | .wrEdcidr3 _ _ => 0x1FFC

/-- The written word of a transaction; 0 for a read. -/
def Instr.data : Instr → Word
  | .rdEdesr _ => 0
  | .wrEdesr d _ => d
  | .rdEdecr _ => 0
  | .wrEdecr d _ => d
  | .rdEdscr2 _ => 0
  | .wrEdscr2 d _ => d
  | .rdEdwarLo _ => 0
  | .wrEdwarLo d _ => d
  | .rdEdwarHi _ => 0
  | .wrEdwarHi d _ => d
  | .rdEdhsrLo _ => 0
  | .wrEdhsrLo d _ => d
  | .rdEdhsrHi _ => 0
  | .wrEdhsrHi d _ => d
  | .rdDbgdtrrx _ => 0
  | .wrDbgdtrrx d _ => d
  | .rdEditr _ => 0
  | .wrEditr d _ => d
  | .rdEdscr _ => 0
  | .wrEdscr d _ => d
  | .rdDbgdtrtx _ => 0
  | .wrDbgdtrtx d _ => d
  | .rdEdrcr _ => 0
  | .wrEdrcr d _ => d
  | .rdEdacr _ => 0
  | .wrEdacr d _ => d
  | .rdEdeccr _ => 0
  | .wrEdeccr d _ => d
  | .rdEdpcsrLo _ => 0
  | .wrEdpcsrLo d _ => d
  | .rdEdcidsr _ => 0
  | .wrEdcidsr d _ => d
  | .rdEdvidsr _ => 0
  | .wrEdvidsr d _ => d
  | .rdEdpcsrHi _ => 0
  | .wrEdpcsrHi d _ => d
  | .rdOslar _ => 0
  | .wrOslar d _ => d
  | .rdEdprcr _ => 0
  | .wrEdprcr d _ => d
  | .rdEdprsr _ => 0
  | .wrEdprsr d _ => d
  | .rdDbgbvrLo _ _ => 0
  | .wrDbgbvrLo _ d _ => d
  | .rdDbgbvrHi _ _ => 0
  | .wrDbgbvrHi _ d _ => d
  | .rdDbgbcrLo _ _ => 0
  | .wrDbgbcrLo _ d _ => d
  | .rdDbgbcrHi _ _ => 0
  | .wrDbgbcrHi _ d _ => d
  | .rdDbgwvrLo _ _ => 0
  | .wrDbgwvrLo _ d _ => d
  | .rdDbgwvrHi _ _ => 0
  | .wrDbgwvrHi _ d _ => d
  | .rdDbgwcrLo _ _ => 0
  | .wrDbgwcrLo _ d _ => d
  | .rdDbgwcrHi _ _ => 0
  | .wrDbgwcrHi _ d _ => d
  | .rdMidr _ => 0
  | .wrMidr d _ => d
  | .rdEdpfrLo _ => 0
  | .wrEdpfrLo d _ => d
  | .rdEdpfrHi _ => 0
  | .wrEdpfrHi d _ => d
  | .rdEddfrLo _ => 0
  | .wrEddfrLo d _ => d
  | .rdEddfrHi _ => 0
  | .wrEddfrHi d _ => d
  | .rdEddfr1Lo _ => 0
  | .wrEddfr1Lo d _ => d
  | .rdEddfr1Hi _ => 0
  | .wrEddfr1Hi d _ => d
  | .rdEddfr2Lo _ => 0
  | .wrEddfr2Lo d _ => d
  | .rdEddfr2Hi _ => 0
  | .wrEddfr2Hi d _ => d
  | .rdEdaa32pfrLo _ => 0
  | .wrEdaa32pfrLo d _ => d
  | .rdEdaa32pfrHi _ => 0
  | .wrEdaa32pfrHi d _ => d
  | .rdEditctrl _ => 0
  | .wrEditctrl d _ => d
  | .rdDbgclaimset _ => 0
  | .wrDbgclaimset d _ => d
  | .rdDbgclaimclr _ => 0
  | .wrDbgclaimclr d _ => d
  | .rdEddevaff0 _ => 0
  | .wrEddevaff0 d _ => d
  | .rdEddevaff1 _ => 0
  | .wrEddevaff1 d _ => d
  | .rdEdlar _ => 0
  | .wrEdlar d _ => d
  | .rdEdlsr _ => 0
  | .wrEdlsr d _ => d
  | .rdDbgauthstatus _ => 0
  | .wrDbgauthstatus d _ => d
  | .rdEddevarch _ => 0
  | .wrEddevarch d _ => d
  | .rdEddevid2 _ => 0
  | .wrEddevid2 d _ => d
  | .rdEddevid1 _ => 0
  | .wrEddevid1 d _ => d
  | .rdEddevid _ => 0
  | .wrEddevid d _ => d
  | .rdEddevtype _ => 0
  | .wrEddevtype d _ => d
  | .rdEdpidr4 _ => 0
  | .wrEdpidr4 d _ => d
  | .rdEdpidr0 _ => 0
  | .wrEdpidr0 d _ => d
  | .rdEdpidr1 _ => 0
  | .wrEdpidr1 d _ => d
  | .rdEdpidr2 _ => 0
  | .wrEdpidr2 d _ => d
  | .rdEdpidr3 _ => 0
  | .wrEdpidr3 d _ => d
  | .rdEdcidr0 _ => 0
  | .wrEdcidr0 d _ => d
  | .rdEdcidr1 _ => 0
  | .wrEdcidr1 d _ => d
  | .rdEdcidr2 _ => 0
  | .wrEdcidr2 d _ => d
  | .rdEdcidr3 _ => 0
  | .wrEdcidr3 d _ => d

/-- The seven bytes of a transaction. -/
def encode (i : Instr) : List Byte :=
  let key : BitVec 16 := i.key.setWidth 16
  [key.extractLsb' 0 8, key.extractLsb' 8 8, byteOfAddrDesc i.ad,
    byteOfWord i.data 0, byteOfWord i.data 1, byteOfWord i.data 2, byteOfWord i.data 3]

/-! ## The host's view of a table word -/

/-- The number of bytes of a frame. -/
def frameBytes : Nat := 7

/-- The bytes of a table word of `nbits` bits, bit 0 the least significant bit of the first byte, filled up with
zeros to a whole frame. -/
def tableBytes (nbits w : Nat) : List Byte :=
  let given := (nbits + 7) / 8
  (List.range (max given frameBytes)).map fun k =>
    if k < given then BitVec.ofNat 8 (w >>> (8 * k)) else 0

/-- The instruction the decoder reads from a table word. -/
def decodeTableWord (nbits w : Nat) : Option Instr :=
  match decode (tableBytes nbits w) with
  | .ok (i, []) => some i
  | _ => none

end Sys2Proof
end

