-- ==== Sys2Proof/WellFormed.lean ====
section
/-!
DEFINITION. Which transactions are well formed on an implementation. The encoding tables admit every operand (the index
n runs over all 64 values, R184, and any data may be written, R191); the one check is on the access descriptor: Realm
and Root accesses exist only with FEAT_RME (30_encoding.md R181, 60_exceptions.md R826).
-/

namespace Sys2Proof

/-- R181, R826: the Security state of the access exists. -/
def SecState.wf (c : Config) : SecState → Bool
  | .nonSecure => true
  | .secure => true
  | .realm => c.sys.rme
  | .root => c.sys.rme

/-- The transaction may be issued to an implementation with parameters `c`. -/
def Instr.wf (c : Config) (i : Instr) : Bool := i.ad.ss.wf c

end Sys2Proof
end

