-- ==== Sys2Proof/Machine/Fetch.lean ====
section
/-!
DEFINITION. What `step` does around a meaning: taking the next input, reading a transaction from its bytes, and the two
conditions under which the source voids all of its rules (44 R528, 42 R364). The input list is the model's own
(DESIGN CHOICE, notes/assumptions/1.md).
-/

namespace Sys2Proof.Machine

/-- The refusal of a frame that the decoder does not read as a transaction. -/
def refusalOf : DecodeError → Refusal
  | .truncated => .truncatedFrame
  | .reservedKeyBits => .reservedKeyBits
  | .misaligned => .misaligned
  | .unlistedOffset => .unlistedOffset
  | .reservedDescriptor => .reservedDescriptor
  | .dataOnRead => .dataOnRead

/-- The transaction of a frame: the bytes decode with nothing left over, and the access is well formed. -/
def fetch (c : Config) (bytes : List Byte) : Except Refusal Instr :=
  match decode bytes with
  | .error e => .error (refusalOf e)
  | .ok (i, []) => if i.wf c then .ok i else .error .illFormedAccess
  | .ok (_, _ :: _) => .error .trailingBytes

/-- Integration mode: EDITCTRL.IME is 1 (44 R528, D26). -/
def State.inIntegrationMode (s : State) : Bool := s.cfg.has.editctrl && s.ctl.editctrl.getLsbD 0

/-- EDACR has been changed from its reset value (42 R364, D24). -/
def State.auxiliaryChanged (s : State) : Bool := s.cfg.has.edacr && s.ctl.edacr != s.acrReset

/-- Why no rule of the source holds of this state, if none does. -/
def State.voided (s : State) : Option Fault :=
  if s.inIntegrationMode then some .integrationMode
  else if s.auxiliaryChanged then some .auxiliaryControlChanged
  else none

/-- The head of the input list taken, and the step numbered. -/
def State.consume (s : State) (rest : List Event) : State := { s with inputs := rest, draws := s.draws + 1 }

/-- The transaction writes a control of which the PE may see the write late: the list of 70 R888. -/
def writtenControl : Instr → Option ControlReg
  | .wrDbgbvrLo n _ _ | .wrDbgbvrHi n _ _ => some (.bvr n)
  | .wrDbgbcrLo n _ _ | .wrDbgbcrHi n _ _ => some (.bcr n)
  | .wrDbgwvrLo n _ _ | .wrDbgwvrHi n _ _ => some (.wvr n)
  | .wrDbgwcrLo n _ _ | .wrDbgwcrHi n _ _ => some (.wcr n)
  | .wrEdscr _ _ => some .edscr
  | .wrEdscr2 _ _ => some .edscr2
  | .wrEdeccr _ _ => some .edeccr
  | .wrEdecr _ _ => some .edecr
  | .wrOslar _ _ => some .oslk
  | _ => none

/-- The state after the transaction `i`, which has taken `s` to `t`: if it changed a control, the value of before is kept for
the PE to see (70 R888; notes/assumptions/52.md). A write that is ignored, or returns ERROR, changes none, and nothing is
kept (20_memory.md R151, 60_exceptions.md R801). -/
def State.remember (s : State) (i : Instr) (t : State) : State :=
  { t with
    lateControls :=
      match writtenControl i with
      | none => t.lateControls
      | some r => if t.control r = s.control r then t.lateControls else (r, s.control r) :: t.lateControls }

/-- The outcome of a transaction, with what the step adds to a next state. -/
def State.afterAccess (s : State) (i : Instr) : Result → Result
  | .next t => .next (s.remember i t)
  | .fault f => .fault f
  | .refused r => .refused r

end Sys2Proof.Machine
end

