-- ==== Sys2Proof/Machine/Step.lean ====
section
/-!
DEFINITION. One step: the next transaction or the next step of an agent, in the order of the input list (10_state.md R43,
R101; DESIGN CHOICE, notes/assumptions/1.md).
-/

namespace Sys2Proof.Machine

/-- One step of the machine. With nothing left to happen the state stays as it is. -/
def step (s : State) : Host.Outcome State Fault Refusal :=
  match s.voided with
  | some f => .fault f
  | none =>
    match s.inputs with
    | [] => .next s
    | .agent a :: rest => .next (agentStep a (s.consume rest))
    | .access bytes :: rest =>
      match fetch s.cfg bytes with
      | .error r => .refused r
      | .ok i => (s.consume rest).afterAccess i (exec i (s.consume rest))

/-- `s` with the transaction of a table word as its next input (notes/assumptions/3.md). -/
def State.withFetchWord (s : State) (nbits w : Nat) : State :=
  { s with inputs := .access (tableBytes nbits w) :: s.inputs }

end Sys2Proof.Machine
end

