-- ==== Sys2Proof/Safety.lean ====
section
/-!
DEFINITION. The terms in which statements about the machine are made: the conditions of the access ladders, the shapes of
an outcome, which bits of each register are fields (copied from the rules of spec/, not from Machine/Operands.lean), and
what counts as a safe state. `SafeState` holds after reset and is kept by every step.
-/

namespace Sys2Proof.Safety

open Sys2Proof.Machine

/-! ## Conditions on the state (60_exceptions.md R802) -/

/-- IsCorePowered() and !DoubleLockStatus(). -/
abbrev CoreOn (s : State) : Prop := s.powered = true ∧ s.doubleLock = false

/-- IsCorePowered(), !DoubleLockStatus() and !OSLockStatus(). -/
abbrev Unlocked (s : State) : Prop := CoreOn s ∧ s.osLock = false

/-- `Unlocked`, and AllowExternalDebugAccess(addrdesc). -/
abbrev Permitted (s : State) (ad : AddrDesc) : Prop := Unlocked s ∧ s.allowDebug ad = true

/-- Not (FEAT_DoPD is implemented and !IsCorePowered()). -/
abbrev Reachable (s : State) : Prop := ¬(s.cfg.dbg.doPD = true ∧ s.powered = false)

/-- The RES0 positions hold nothing: RES0_storage is reads_zero (00_scope.md R7, R14). -/
abbrev PlainStorage (s : State) : Prop := s.cfg.opt.res0Storage = false

/-- Normal access mode: not (Halted and EDSCR.MA = 1) (41 R304). -/
abbrev NormalMode (s : State) : Prop := ¬(s.hal.halted = true ∧ s.ctl.edscr.getLsbD 20 = true)

/-- EDSCR.ERR does not stop DTR accesses (41 R305). -/
abbrev DtrLive (s : State) : Prop := s.ctl.edscr.getLsbD 6 = false ∨ s.cfg.opt.dtrErrAsWritten = true

/-! ## Shapes of an outcome -/

/-- The access returns OK(v) and changes nothing. -/
abbrev reads (s : State) (v : Word) : Result := .next { s with response := .okRead v }

/-- The access returns OK and changes nothing. -/
abbrev accepts (s : State) : Result := .next { s with response := .okWrite }

/-- The access returns ERROR and changes nothing. -/
abbrev errors (s : State) : Result := .next { s with response := .error }

/-- The access returns ERROR and sets EDPRSR.SDAD (60_exceptions.md R801). -/
abbrev sdadErrors (s : State) : Result :=
  .next { s with response := .error, sticky := { s.sticky with sdad := true } }

/-- A read that returns the same value whether the Software Lock is set or not, under the ERROR clause "DL or !P or
OSL". -/
abbrev LockedRead (i : Instr) (s : State) (v : Word) : Prop :=
  (Unlocked s → exec i s = reads s v) ∧ (¬Unlocked s → exec i s = errors s)

/-- A write that has the outcome `t`, is ignored under the Software Lock, and has the ERROR clause "DL or !P or OSL". -/
abbrev LockedWrite (i : Instr) (s t : State) : Prop :=
  (Unlocked s → s.softLock i.ad = false → exec i s = .next { t with response := .okWrite }) ∧
  (Unlocked s → s.softLock i.ad = true → exec i s = accepts s) ∧
  (¬Unlocked s → exec i s = errors s)

/-- A read under the ERROR clause "DoPD and !P". -/
abbrev IdentRead (i : Instr) (s : State) (v : Word) : Prop :=
  (Reachable s → exec i s = reads s v) ∧ (¬Reachable s → exec i s = errors s)

/-- A write of a read-only register under the ERROR clause "DoPD and !P". -/
abbrev IdentWrite (i : Instr) (s : State) : Prop :=
  (Reachable s → exec i s = accepts s) ∧ (¬Reachable s → exec i s = errors s)

/-- What the ERROR clause "DL or !P or OSL or !A" gives (60_exceptions.md R801, R802). -/
abbrev GuardedErrors (i : Instr) (s : State) : Prop :=
  (Unlocked s → s.allowDebug i.ad = false → exec i s = sdadErrors s) ∧ (¬Unlocked s → exec i s = errors s)

/-- Only the control cell of breakpoint `n` differs. -/
abbrev BcrFrame (s t : State) (n : Index) : Prop :=
  t = { s with regs := { s.regs with bcr := t.regs.bcr } } ∧ ∀ m, m ≠ n → t.bcr m = s.bcr m

/-- Only the value cell of breakpoint `n` differs. -/
abbrev BvrFrame (s t : State) (n : Index) : Prop :=
  t = { s with regs := { s.regs with bvr := t.regs.bvr } } ∧ ∀ m, m ≠ n → t.bvr m = s.bvr m

/-- Only the control cell of watchpoint `n` differs. -/
abbrev WcrFrame (s t : State) (n : Index) : Prop :=
  t = { s with regs := { s.regs with wcr := t.regs.wcr } } ∧ ∀ m, m ≠ n → t.wcr m = s.wcr m

/-- Only the value cell of watchpoint `n` differs. -/
abbrev WvrFrame (s t : State) (n : Index) : Prop :=
  t = { s with regs := { s.regs with wvr := t.regs.wvr } } ∧ ∀ m, m ≠ n → t.wvr m = s.wvr m

/-- Only the control cell of breakpoint `n` differs, and the response is OK. -/
abbrev OnlyBcr (s t : State) (n : Index) : Prop := BcrFrame { s with response := .okWrite } t n

/-- Only the value cell of breakpoint `n` differs, and the response is OK. -/
abbrev OnlyBvr (s t : State) (n : Index) : Prop := BvrFrame { s with response := .okWrite } t n

/-- Only the control cell of watchpoint `n` differs, and the response is OK. -/
abbrev OnlyWcr (s t : State) (n : Index) : Prop := WcrFrame { s with response := .okWrite } t n

/-- Only the value cell of watchpoint `n` differs, and the response is OK. -/
abbrev OnlyWvr (s t : State) (n : Index) : Prop := WvrFrame { s with response := .okWrite } t n

/-- The word `d`, written to bits [63:32] (`hi`) or [31:0] of a 64-bit register, changes exactly its bits in `stored`. -/
abbrev WritesHalf (stored : Nat → Bool) (hi : Bool) (d : Word) (old new : Dword) : Prop :=
  ∀ k, k < 64 →
    new.getLsbD k = if stored k && decide (hi = decide (32 ≤ k)) then d.getLsbD (k % 32) else old.getLsbD k

/-- The doubleword `v`, written to a 64-bit register, changes exactly its bits in `stored`. -/
abbrev WritesDword (stored : Nat → Bool) (v old new : Dword) : Prop :=
  ∀ k, k < 64 → new.getLsbD k = if stored k then v.getLsbD k else old.getLsbD k

/-- The word `d`, written to a 32-bit register, changes exactly its bits in `stored`. -/
abbrev WritesWord (stored : Nat → Bool) (d old new : Word) : Prop :=
  ∀ k, k < 32 → new.getLsbD k = if stored k then d.getLsbD k else old.getLsbD k

/-- The register reads its bits in `stored` as they are stored, and the others as 0. -/
abbrev ShowsFields (stored : Nat → Bool) (raw v : Word) : Prop :=
  ∀ k, k < 32 → v.getLsbD k = (stored k && raw.getLsbD k)

/-- The reads `rs` and the writes `ws` meet RES0 while `admitted`, and otherwise, at each access, RES0 or one of
`failures`. -/
abbrev Res0Or (admitted : Prop) (failures : List Result) (rs ws : List Instr) (s : State) : Prop :=
  (∀ i ∈ rs, (admitted → exec i s = reads s 0) ∧ (exec i s = reads s 0 ∨ exec i s ∈ failures)) ∧
  (∀ i ∈ ws, (admitted → exec i s = accepts s) ∧ (exec i s = accepts s ∨ exec i s ∈ failures))

/-! ## Steps of the PE -/

/-- A Reset Catch debug event comes before anything else the PE does (70 R865; the model's own flag,
notes/assumptions/47.md). -/
abbrev ResetCatchFirst (s : State) : Prop :=
  s.hal.resetCatchDue = true ∧ s.hal.halted = false ∧ s.env.haltingAllowed = true ∧ s.ctl.edesr.getLsbD 1 = true

/-- The PE executes: its domain is powered, it is out of reset, and no Reset Catch debug event comes first. -/
abbrev Executes (s : State) : Prop :=
  s.power.core = .powered ∧ s.power.inReset = false ∧ ¬ResetCatchFirst s

/-- EDSCR.TDA turns an access by PE software to a breakpoint or watchpoint register into a Software Access debug event
(47 R712): as the PE sees them (70 R888), TDA is 1 and the OS Lock is clear; halting is allowed, Non-debug state. -/
abbrev Trapped (s : State) : Prop :=
  s.hal.halted = false ∧ s.env.haltingAllowed = true ∧ s.seen.ctl.edscr.getLsbD 21 = true ∧ s.seen.lock.oslk = false

/-- `P` holds of a value of the control `r` that the PE may see: the present one, or, until the next context
synchronization event, one that it had before the debugger changed it (70 R888; which writes the PE may see late, and for how
long, is the model's reading, notes/assumptions/52.md). -/
abbrev SomeControl (s : State) (r : ControlReg) (P : Dword → Prop) : Prop :=
  P (s.control r) ∨ ∃ v, (r, v) ∈ s.lateControls ∧ P v

/-- The values kept of each control agree in the bits of `mask` with the value it has in `t`, and are otherwise as in `s`:
a step other than a transaction has written those bits, and the PE sees them as written (20_memory.md R161;
notes/assumptions/52.md). -/
abbrev Settles (s t : State) (mask : ControlReg → Dword) : Prop :=
  t.lateControls = s.lateControls.map fun p => (p.1, (p.2 &&& ~~~mask p.1) ||| (t.control p.1 &&& mask p.1))

/-- The values kept of the controls change as `mask` says, and apart from them `t` is what `P` admits from `s`. -/
abbrev Settling (s : State) (mask : ControlReg → Dword) (P : State → State → Prop) (t : State) : Prop :=
  Settles s t mask ∧ P { s with lateControls := t.lateControls } t

/-- A write of the System register view `r` by PE software, in the Execution state and on the breakpoint or watchpoint it
is a view of: with TDA in the way the PE takes the Software Access debug event, otherwise the state after meets `P`
(10_state.md R49, 60_exceptions.md R815 d). -/
abbrev TrappableWrite (r : SysReg) (v : Dword) (s : State) (P : State → Prop) : Prop :=
  Executes s → r.reachable s.cfg s.usingAA64 = true →
    (Trapped s → agentStep (.sysWrite r v) s = agentStep (.enterDebug .debugRegisterAccess) s) ∧
    (¬Trapped s → P (agentStep (.sysWrite r v) s))

/-- One of the authentication predicates that the PE may act on: the present ones, or, until the next context
synchronization event, those of before a change (20_memory.md R162; which of them see a change late is the model's
reading, notes/assumptions/32.md). -/
abbrev SomeAuth (s : State) (P : Auth → Prop) : Prop := ∃ a ∈ s.auth :: s.earlierAuth, P a

/-- A Security state and Exception level that the implementation has (47 R715, 93_implementation_defined.md U76). -/
abbrev LegalView (c : Config) (p : PeView) : Prop :=
  (p.ss = .secure → c.pe.secureImpl = true) ∧ (p.ss = .nonSecure → c.pe.nonSecureImpl = true) ∧
  ((p.ss = .realm ∨ p.ss = .root) → c.sys.rme = true) ∧
  (p.el = 3 → c.pe.haveEL3 = true) ∧ (p.el = 2 → c.pe.haveEL2 = true)

/-- EDSCR.INTdis holds a value that is reserved (47 R711 c). -/
abbrev IntdisReserved (s : State) : Prop :=
  s.cfg.sys.rme = false ∧ s.cfg.dbg.debugv8p4 = false ∧ s.cfg.opt.intdisTwoBit = false ∧
    s.ctl.edscr.getLsbD 22 ≠ s.ctl.edscr.getLsbD 23

/-- Interrupts and SError exceptions taken to Exception level `el` of a Security state are masked by EDSCR.INTdis, whose
bits are `hi` and `lo`, in Non-debug state: the variants (a), (b) and (c) of 47 R711. -/
def intdisMasks (c : Config) (a : Auth) (hi lo : Bool) (ss : SecState) (el : BitVec 2) : Bool :=
  a.invasive &&
    if c.sys.rme then
      lo &&
        match ss with
        | .nonSecure => true
        | .secure => a.secureInvasive
        | .root => a.rootInvasive
        | .realm => a.realmInvasive
    else if c.dbg.debugv8p4 then
      lo && (decide (ss = .nonSecure) || (decide (ss = .secure) && a.secureInvasive))
    else
      match ss, hi, lo with
      | .nonSecure, false, true => decide (el = 1)
      | .nonSecure, true, _ => true
      | .secure, true, false => a.secureInvasive && decide (el = 1)
      | .secure, true, true => a.secureInvasive
      | _, _, _ => false

/-! ## Which bits are fields -/

/-- DBGBCR<n>_EL1[31:0], the list of 40 R239. -/
def bcrField (c : Config) (n : Index) (k : Nat) : Bool :=
  decide (k ≤ 2) || (decide (k = 3) && c.dbg.able && decide (n.toNat < c.pe.numAblCmp)) ||
    (decide (5 ≤ k ∧ k ≤ 8) && c.dbg.aa32) || decide (13 ≤ k ∧ k ≤ 23) || (decide (24 ≤ k ∧ k ≤ 28) && c.dbg.bwe) ||
    (decide (k = 29) && c.sys.rme) || (decide (30 ≤ k ∧ k ≤ 31) && c.dbg.debugv8p9)

/-- DBGWCR<n>_EL1[31:0], the list of 41 R333. -/
def wcrField (c : Config) (k : Nat) : Bool :=
  decide (k ≤ 20) || (decide (k = 22) && c.dbg.bwe2) || decide (24 ≤ k ∧ k ≤ 28) || (decide (k = 29) && c.sys.rme) ||
    (decide (30 ≤ k ∧ k ≤ 31) && c.dbg.debugv8p9)

/-- LBN and, with FEAT_Debugv8p9, LBNX (40 R238, 41 R332). -/
def lbnBit (c : Config) (k : Nat) : Bool :=
  decide (16 ≤ k ∧ k ≤ 19) || (decide (30 ≤ k ∧ k ≤ 31) && c.dbg.debugv8p9)

/-- The top bit of a virtual address (00_scope.md R11). -/
def topBit (c : Config) : Nat := if c.dbg.lva3 then 56 else if c.dbg.lva then 52 else 48

/-- BT is 0b0x0x: DBGBVR<n>_EL1 holds a virtual address (40 R241). -/
abbrev isAddressType (bt : BitVec 4) : Bool := !bt.getLsbD 3 && !bt.getLsbD 1

/-- The bits of DBGBVR<n>_EL1 that hold a value under BT (40 R241, R243 to R249); `wide` is the condition of VMID[15:8]
(40 R246). -/
def bvrField (c : Config) (wide : Bool) (bt : BitVec 4) (k : Nat) : Bool :=
  let el2 := c.pe.haveEL2
  let el2v8p1 := c.pe.haveEL2 && c.dbg.debugv8p1
  let low := decide (k ≤ 31)
  let vmid := decide (32 ≤ k ∧ k ≤ 39) || (decide (40 ≤ k ∧ k ≤ 47) && wide)
  let high := decide (32 ≤ k ∧ k ≤ 63)
  if isAddressType bt then decide (2 ≤ k ∧ k ≤ topBit c)
  else if bt.extractLsb' 1 3 = 0b001#3 then low
  else if bt.extractLsb' 1 3 = 0b011#3 then el2v8p1 && low
  else if bt.extractLsb' 1 3 = 0b100#3 then el2 && vmid
  else if bt.extractLsb' 1 3 = 0b101#3 then el2 && (low || vmid)
  else if bt.extractLsb' 1 3 = 0b110#3 then el2v8p1 && high
  else el2v8p1 && (low || high)

/-- A RESS bit of an address register that can be written (00_scope.md R11). -/
def ressField (c : Config) (k : Nat) : Bool := c.opt.ressWritable && decide (topBit c < k ∧ k ≤ 63)

/-- EDECCR (10_state.md R77). -/
def edeccrField (c : Config) (k : Nat) : Bool :=
  let fine := c.dbg.debugv8p2
  let ns2 := c.pe.nonSecureImpl && c.pe.haveEL2
  match k with
  | 1 => c.pe.secureImpl
  | 2 => fine && c.sys.sel2
  | 3 => c.pe.haveEL3
  | 5 => c.pe.nonSecureImpl
  | 6 => ns2
  | 8 => fine && c.pe.secureImpl
  | 9 => fine && c.pe.secureImpl
  | 10 => fine && c.sys.sel2
  | 11 => fine && c.pe.haveEL3
  | 12 => fine && c.pe.nonSecureImpl
  | 13 => fine && c.pe.nonSecureImpl
  | 14 => fine && ns2
  | 17 => c.sys.rme
  | 18 => c.sys.rme
  | 20 => c.sys.rme
  | 21 => c.sys.rme
  | 22 => c.sys.rme
  | _ => false

/-- The bits xE<n> and xR<n> of EDECCR for an Exception level of a Security state (44 R473 to R475); those for EL0 pair the
return bit with a RES0 position (R472). -/
def catchBitsOf (el : BitVec 2) : SecState → Nat × Nat
  | .nonSecure => if el = 3 then (3, 11) else if el = 2 then (6, 14) else if el = 1 then (5, 13) else (4, 12)
  | .secure => if el = 3 then (3, 11) else if el = 2 then (2, 10) else if el = 1 then (1, 9) else (0, 8)
  | .realm => if el = 3 then (3, 11) else if el = 2 then (18, 22) else if el = 1 then (17, 21) else (16, 20)
  | .root => (3, 11)

/-- EDECCR enables the Exception Catch debug event: on entry while E is 1, on return while E differs from R, on reset entry
with E where the implementation generates it, but for Realm state (44 R473, R474, R477); without FEAT_Debugv8p2, and but for
Realm state, on return too while E is 1 (R476; the model's choice, notes/assumptions/30.md). Root state is EL3's alone. -/
def catchEnabled (c : Config) (edeccr : Word) (el : BitVec 2) (ss : SecState) (kind : CatchKind) : Bool :=
  let bit := fun k => edeccrField c k && edeccr.getLsbD k
  let e := bit (catchBitsOf el ss).1
  let r := bit (catchBitsOf el ss).2
  let realm := decide (ss = .realm) && decide (el ≠ 3)
  (decide (ss ≠ .root) || decide (el = 3)) &&
    match kind with
    | .entry => e
    | .ret => if c.dbg.debugv8p2 || realm then e != r else e
    | .resetEntry => e && c.opt.resetCatchOnResetEntry && !realm

/-- EDECR.{TRBE, TRCE, PME}, which are in the Core power domain (10_state.md R78, 44 R484). -/
def edecrCoreField (c : Config) (k : Nat) : Bool :=
  match k with
  | 4 => c.dbg.debugv8p9 && c.sys.pmuv3p9
  | 5 => c.sys.etev1p3 && c.dbg.debugv8p9
  | 6 => c.dbg.debugv8p9 && c.sys.trbeExt
  | _ => false

/-- EDECR (10_state.md R78). -/
def edecrField (c : Config) (k : Nat) : Bool :=
  edecrCoreField c k || decide (k = 2) || (!c.dbg.doPD && decide (k ≤ 1))

/-- EDESR (10_state.md R79). -/
def edesrField (c : Config) (k : Nat) : Bool := decide (k ≤ 2) || (decide (k = 3) && c.dbg.debugv8p8)

/-- EDSCR, the fields of 47 R746. -/
def edscrField (c : Config) (k : Nat) : Bool :=
  (decide (k = 31) && c.sys.trf) || (decide (k = 23) && !(c.sys.rme || c.dbg.debugv8p4)) ||
    decide (k = 22 ∨ k = 21 ∨ k = 20) ||
    (decide (k = 19) && c.sys.pcsrv8 && !c.sys.pcsrv8p2 && c.pe.haveEL2 && c.dbg.debugv8p1) || decide (k = 14)

/-- EDSCR2 (10_state.md R96, 47 R752). -/
def edscr2Field (c : Config) (k : Nat) : Bool :=
  (decide (k = 3) && c.dbg.debugv8p9 &&
    (decide (16 < c.pe.numBrp) || decide (16 < c.pe.numWrp) || !c.pe.mdselrRazWi || c.has.ehbwe)) ||
  (decide (k = 1) && (c.sys.trbeExt || c.sys.etev1p3))

/-- EDPRCR, the bits with storage (10_state.md R92). -/
def edprcrField (c : Config) (k : Nat) : Bool := decide (k = 0) || (decide (k = 3) && !c.dbg.doPD)

/-- The fixed offsets of the map (30_encoding.md R183). -/
def fixedOffsets : List (BitVec 12) :=
  [ 0x020, 0x024, 0x028, 0x030, 0x034, 0x038, 0x03C, 0x080, 0x084, 0x088, 0x08C, 0x090, 0x094, 0x098, 0x0A0, 0x0A4,
    0x0A8, 0x0AC, 0x300, 0x310, 0x314, 0xD00, 0xD20, 0xD24, 0xD28, 0xD2C, 0xD48, 0xD4C, 0xD50, 0xD54, 0xD60, 0xD64 ] ++
  [ 0xF00, 0xFA0, 0xFA4, 0xFA8, 0xFAC, 0xFB0, 0xFB4, 0xFB8, 0xFBC, 0xFC0, 0xFC4, 0xFC8, 0xFCC, 0xFD0, 0xFE0, 0xFE4,
    0xFE8, 0xFEC, 0xFF0, 0xFF4, 0xFF8, 0xFFC ]

/-- An aligned offset has a register word: a fixed offset, or one of 0x400 to 0xBFF (30_encoding.md R183, R184). -/
def listed (off : BitVec 12) : Bool :=
  decide (0x400 ≤ off.toNat ∧ off.toNat ≤ 0xBFF) || fixedOffsets.contains off

/-- The transaction's ERROR clause names AllowExternalDebugAccess() (60_exceptions.md R801): the breakpoint and watchpoint
registers (but not a reserved high control word, 30_encoding.md R190 a), DBGDTRTX_EL0 and OSLAR_EL1. -/
def accessChecked (c : Config) : Instr → Bool
  | .rdDbgbvrLo _ _ => true
  | .wrDbgbvrLo _ _ _ => true
  | .rdDbgbvrHi _ _ => true
  | .wrDbgbvrHi _ _ _ => true
  | .rdDbgbcrLo _ _ => true
  | .wrDbgbcrLo _ _ _ => true
  | .rdDbgbcrHi n _ => c.dbg.debugv8p9 || decide (c.pe.numBrp ≤ n.toNat)
  | .wrDbgbcrHi n _ _ => c.dbg.debugv8p9 || decide (c.pe.numBrp ≤ n.toNat)
  | .rdDbgwvrLo _ _ => true
  | .wrDbgwvrLo _ _ _ => true
  | .rdDbgwvrHi _ _ => true
  | .wrDbgwvrHi _ _ _ => true
  | .rdDbgwcrLo _ _ => true
  | .wrDbgwcrLo _ _ _ => true
  | .rdDbgwcrHi n _ => c.dbg.debugv8p9 || decide (c.pe.numWrp ≤ n.toNat)
  | .wrDbgwcrHi n _ _ => c.dbg.debugv8p9 || decide (c.pe.numWrp ≤ n.toNat)
  | .rdDbgdtrtx _ => true
  | .wrDbgdtrtx _ _ => true
  | .rdOslar _ => true
  | .wrOslar _ _ => true
  | _ => false

/-- The transaction is one of OSLAR_EL1, whose ERROR clause has no OS Lock term (47 R771). -/
def isOslar : Instr → Bool
  | .rdOslar _ => true
  | .wrOslar _ _ => true
  | _ => false

/-- The transactions that may change the block although the Software Lock is set: EDLAR, EDSCR2 (60_exceptions.md R824),
the read of EDPCSR[31:0], which clears two hidden flags (45 R571, D31), and the registers whose response is
IMPLEMENTATION DEFINED while the block is locked by other means (42 R361, 44 R527). -/
def passesSoftwareLock : Instr → Bool
  | .wrEdlar _ _ => true
  | .wrEdscr2 _ _ => true
  | .rdEdpcsrLo _ => true
  | .wrEdacr _ _ => true
  | .wrEditctrl _ _ => true
  | _ => false

/-! ## Safe states -/

/-- The codes of EDSCR.STATUS that record a reason for halting (47 R740). -/
def haltCodes : List (BitVec 6) :=
  [0b000111, 0b010011, 0b011011, 0b011111, 0b100011, 0b100111, 0b101011, 0b101111, 0b110011, 0b110111, 0b111011]

/-- EDSCR.STATUS agrees with Halted: a halting code or 0b000001 in Debug state, 0b000010 in Non-debug state (47 R740,
60_exceptions.md R810 to R812). -/
abbrev StatusCoherent (s : State) : Prop :=
  if s.hal.halted then s.status ∈ haltCodes ∨ s.status = 0b000001 else s.status = 0b000010

/-- Where RES0 positions hold nothing, no bit outside the fields of EDECCR, EDECR, EDESR, EDSCR2, EDPRCR and EDITCTRL is
ever 1 (10_state.md R77 to R79, R81, R92, R96). -/
abbrev ReservedClear (s : State) : Prop :=
  PlainStorage s → ∀ k, k < 32 →
    (edeccrField s.cfg k = false → s.ctl.edeccr.getLsbD k = false) ∧
    (edecrField s.cfg k = false → s.ctl.edecr.getLsbD k = false) ∧
    (edesrField s.cfg k = false → s.ctl.edesr.getLsbD k = false) ∧
    (edscr2Field s.cfg k = false → s.ctl.edscr2.getLsbD k = false) ∧
    (edprcrField s.cfg k = false → s.ctl.edprcr.getLsbD k = false) ∧
    (k ≠ 0 → s.ctl.editctrl.getLsbD k = false)

/-- The inputs are ones that the implementation can have: with FEAT_Debugv8p4 and Non-secure state implemented,
ExternalNoninvasiveDebugEnabled() is TRUE (40 R222); the PE's Security state and Exception level are implemented, so that
EDSCR.{NSE, NS} is no reserved value (47 R715, 93_implementation_defined.md U76). -/
abbrev LegalInputs (s : State) : Prop :=
  (s.cfg.dbg.debugv8p4 = true → s.cfg.pe.nonSecureImpl = true → s.auth.noninvasive = true) ∧
  LegalView s.cfg s.pe

/-- A safe state: the stored bits agree with the rules, and the inputs with the implementation. -/
abbrev SafeState (s : State) : Prop := StatusCoherent s ∧ ReservedClear s ∧ LegalInputs s

end Sys2Proof.Safety
end

