-- ==== Sys2Proof/Certificates/Slice0/Obligations.lean ====
section
/-!
DEFINITION. The statements for the provers. "Stated" ones formalise a numbered rule of spec/ whole; the others rest on
the rules their docstrings name. A statement about a register says what every clause of its access ladder does; where an
outcome is written `.next { s with … }`, the fields not named are the frame: everything else is unchanged.
-/

open Sys2Proof Sys2Proof.Machine Sys2Proof.Safety

/-! ## Encoding -/

/-- 30_encoding.md R183, R184: words written out from the spec's key patterns (0 0011 0001 0100, 1 0100 0101 1000, …),
with operand bytes of zeros. -/
def Obligations.DecodesTableWords : Prop :=
  decodeTableWord 16 0b0001100010100 = some (.rdEdprsr ⟨false, .nonSecure⟩) ∧
  decodeTableWord 16 0b1000010000000 = some (.wrDbgdtrrx 0 ⟨false, .nonSecure⟩) ∧
  decodeTableWord 16 0b1010001011000 = some (.wrDbgbcrLo 5 0 ⟨false, .nonSecure⟩) ∧
  decodeTableWord 16 0b0101111110100 = some (.rdDbgwvrHi 63 ⟨false, .nonSecure⟩) ∧
  decodeTableWord 16 0b0110100101000 = some (.rdEddfrLo ⟨false, .nonSecure⟩) ∧
  decodeTableWord 16 0b1111110110000 = some (.wrEdlar 0 ⟨false, .nonSecure⟩)

/-- 30_encoding.md R185: every transaction, with every operand, decodes from its own encoding, and the bytes after it are
left over. The byte frame is the model's own (notes/assumptions/2.md). -/
def Obligations.DecodeEncode : Prop :=
  ∀ (i : Instr) (rest : List Byte), decode (encode i ++ rest) = .ok (i, rest)

/-- 30_encoding.md R185: no two byte strings decode to one transaction; what decodes is an encoding. -/
def Obligations.EncodeDecode : Prop :=
  ∀ (bytes rest : List Byte) (i : Instr), decode bytes = .ok (i, rest) → bytes = encode i ++ rest

/-- 20_memory.md R145, 30_encoding.md R183, R190 (c): of the keys that carry no stray bits, the decoder refuses exactly
the misaligned and the unlisted offsets, each by its name. That these are refused, and not answered, is the spec's own
decision (D7, D12) and the model's choice (notes/assumptions/18.md). -/
def Obligations.DecoderRefusesByName : Prop :=
  ∀ (key : BitVec 16) (desc : Byte) (data : Word), key.extractLsb' 13 3 = 0 → desc.extractLsb' 3 5 = 0 →
    let off : BitVec 12 := key.extractLsb' 0 12
    (off.extractLsb' 0 2 ≠ 0 → decodeParts key desc data = .error .misaligned) ∧
    (off.extractLsb' 0 2 = 0 → listed off = false → decodeParts key desc data = .error .unlistedOffset) ∧
    (off.extractLsb' 0 2 = 0 → listed off = true → key.getLsbD 12 = true →
      ∃ i, decodeParts key desc data = .ok i ∧ i.isWrite = true ∧ i.data = data) ∧
    (off.extractLsb' 0 2 = 0 → listed off = true → key.getLsbD 12 = false → data = 0 →
      ∃ i, decodeParts key desc data = .ok i ∧ i.isWrite = false)

/-! ## The machine -/

/-- 10_state.md R43: when the next input is a frame that decodes to a well-formed transaction, the step is `exec` of that
transaction, on the state with the input taken and the step counted (the model's own fields, notes/assumptions/1.md,
9.md). Where the transaction changes a control that the PE may see late, the value from before is kept for the PE to see
(70_reset_and_hazards.md R888; the model's own list, notes/assumptions/52.md); where it changes none, an ignored write and an
ERROR among it, nothing is kept (20_memory.md R151, 60_exceptions.md R801). -/
def Obligations.StepRunsDecodedAccess : Prop :=
  ∀ (s : State) (bytes : List Byte) (rest : List Event) (i : Instr),
    s.voided = none → s.inputs = .access bytes :: rest → decode bytes = .ok (i, []) → i.wf s.cfg = true →
    step s =
      match exec i { s with inputs := rest, draws := s.draws + 1 } with
      | .next t =>
        .next { t with
          lateControls :=
            match writtenControl i with
            | none => t.lateControls
            | some r => if t.control r = s.control r then t.lateControls else (r, s.control r) :: t.lateControls }
      | .fault f => .fault f
      | .refused r => .refused r

/-- 10_state.md R101: when the next input is an agent's step, the step of the machine is that step; with no input left,
nothing changes. -/
def Obligations.StepTakesAgentSteps : Prop :=
  ∀ (s : State), s.voided = none →
    (∀ (a : AgentStep) (rest : List Event), s.inputs = .agent a :: rest →
      step s = .next (agentStep a { s with inputs := rest, draws := s.draws + 1 })) ∧
    (s.inputs = [] → step s = .next s)

/-- 44_ed_event_control.md R528, 42_ed_id_aux.md R364: while EDITCTRL.IME is 1 or EDACR differs from its reset value, no
rule of the spec holds, and the machine stops (the model's choice, notes/assumptions/19.md and 20.md). -/
def Obligations.StepStopsWhenVoid : Prop :=
  ∀ (s : State),
    (s.cfg.has.editctrl = true → s.ctl.editctrl.getLsbD 0 = true → step s = .fault .integrationMode) ∧
    ((s.cfg.has.editctrl = false ∨ s.ctl.editctrl.getLsbD 0 = false) → s.cfg.has.edacr = true →
      s.ctl.edacr ≠ s.acrReset → step s = .fault .auxiliaryControlChanged)

/-- 60_exceptions.md R800, R801: whatever the transaction, an ERROR changes nothing but EDPRSR.SDAD, which it sets exactly
when AllowExternalDebugAccess() == FALSE is its sole reason. The sole reason is the spec's own reading (D34), and the
model's (notes/assumptions/11.md, DEDUCED). -/
def Obligations.ErrorsChangeOnlySdad : Prop :=
  ∀ (i : Instr) (s t : State), exec i s = .next t → t.response = .error →
    t = { s with
      response := .error
      sticky := { s.sticky with
        sdad := s.sticky.sdad ||
          (s.powered && !s.doubleLock && (isOslar i || !s.osLock) && accessChecked s.cfg i && !s.allowDebug i.ad) } }

/-- 60_exceptions.md R824: under the Software Lock a memory-mapped transaction changes no state of the block, but for the
transactions of `passesSoftwareLock`, and EDPRSR.SDAD where it returns ERROR. What SoftwareLockStatus() tests is the
model's reading (notes/assumptions/12.md, DEDUCED); that a locked read of EDPCSR[31:0] clears two hidden flags is D31
(notes/assumptions/26.md), and that a locked read of EDPRSR clears nothing is D32: the spec's own decisions. -/
def Obligations.SoftwareLockFreezesTheBlock : Prop :=
  ∀ (i : Instr) (s t : State), s.softLock i.ad = true → passesSoftwareLock i = false → exec i s = .next t →
    t = { s with response := t.response, sticky := { s.sticky with sdad := t.sticky.sdad } } ∧
      (t.response ≠ .error → t.sticky = s.sticky)

/-- 60_exceptions.md R805, 10_state.md R42: no transaction halts or restarts the PE, or changes EDSCR.STATUS, the PE, the
power state or any other input of the block. The values of controls that the PE may still see are left alone too: the step
adds to them, and no meaning does (the model's own list, notes/assumptions/52.md). -/
def Obligations.AccessesLeaveThePe : Prop :=
  ∀ (i : Instr) (s t : State), exec i s = .next t →
    t.hal.halted = s.hal.halted ∧ t.status = s.status ∧ t.power.core = s.power.core ∧
      t.power.inReset = s.power.inReset ∧ t.pe = s.pe ∧ t.auth = s.auth ∧ t.env = s.env ∧ t.cfg = s.cfg ∧
      t.inputs = s.inputs ∧ t.lateControls = s.lateControls

/-- 45_ed_lock_pcsr_pfr_pidr.md R552, R553, 47_ed_status_control.md R773: of all transactions only a memory-mapped write of
EDLAR moves the Software Lock, and only a write of OSLAR_EL1 the OS Lock. That a write of EDLAR through the external debug
interface moves nothing is D29, the spec's own decision (notes/assumptions/55.md). -/
def Obligations.LocksMoveOnlyThroughTheirRegisters : Prop :=
  ∀ (i : Instr) (s t : State), exec i s = .next t →
    (t.lock.slk ≠ s.lock.slk → ∃ d ad, i = .wrEdlar d ad ∧ ad.memoryMapped = true) ∧
    (t.lock.oslk ≠ s.lock.oslk → ∃ d ad, i = .wrOslar d ad)

/-- 47_ed_status_control.md R740, 60_exceptions.md R810 to R812: every step keeps EDSCR.STATUS in agreement with the
halting state of the PE. -/
def Obligations.StepKeepsStatusCoherent : Prop :=
  ∀ (s t : State), StatusCoherent s → step s = .next t → StatusCoherent t

/-- 10_state.md R77 to R79, R81, R92, R96: every step keeps the reserved bits of the control registers 0. -/
def Obligations.StepKeepsReservedClear : Prop :=
  ∀ (s t : State), ReservedClear s → step s = .next t → ReservedClear t

/-- 70_reset_and_hazards.md R868: the state after reset is safe, its memory of pending inputs is empty and nothing is
voided. -/
def Obligations.ResetIsSafe : Prop :=
  SafeState State.reset ∧ State.reset.voided = none ∧ State.reset.inputs = []

/-- 00_scope.md R6, R7: no step changes a parameter of the implementation. 40_dbg_auth_breakpoint.md R222,
47_ed_status_control.md R715: no step brings inputs that the implementation cannot have, an illegal authentication or an
unimplemented Security state or Exception level (the model's way of taking these premises, notes/assumptions/29.md).
10_state.md R101, 60_exceptions.md R821: what the steps by which inputs change leave. A change of the authentication keeps
the predicates from before, which may still show until a context synchronization event (20_memory.md R162; the model's own
list, notes/assumptions/32.md), and a change of the PE's Context IDs those from before (42 R378, notes/assumptions/26.md); a
state where sampling is prohibited ends the freshness of the sample (45 R571), and one where halting is not allowed the
Reset Catch that was due (notes/assumptions/47.md). Everything else, every register among it, is left alone. -/
def Obligations.StepKeepsConfiguration : Prop :=
  (∀ (s t : State), step s = .next t → t.cfg = s.cfg ∧ (LegalInputs s → LegalInputs t)) ∧
  ∀ (s : State) (a : Auth) (e : Env) (p : PeView) (b : Bool),
    let legal := s.cfg.dbg.debugv8p4 = true → s.cfg.pe.nonSecureImpl = true → a.noninvasive = true
    (legal →
      agentStep (.setAuth a) s =
        { s with auth := a, earlierAuth := if a = s.auth then s.earlierAuth else s.auth :: s.earlierAuth }) ∧
    (¬legal → agentStep (.setAuth a) s = s) ∧
    (LegalView s.cfg p →
      agentStep (.setPe p) s =
        { s with
          pe := p
          earlierContexts :=
            if p.context = s.pe.context then s.earlierContexts else s.pe.context :: s.earlierContexts }) ∧
    (¬LegalView s.cfg p → agentStep (.setPe p) s = s) ∧
    agentStep (.setEnv e) s =
      { s with
        env := e
        smp := { s.smp with fresh := s.smp.fresh && !e.pcSampleProhibited }
        hal := { s.hal with resetCatchDue := s.hal.resetCatchDue && e.haltingAllowed } } ∧
    agentStep (.setExtRequest b) s = { s with hal := { s.hal with extRequest := b } }

/-- 60_exceptions.md R805, R807, R815 (d): the PE enters Debug state only by taking a Halting debug event that is enabled or
pending, or by an access that EDSCR.TDA traps, while halting is allowed, with its domain powered and out of reset; a Reset
Catch that is due comes first (70 R865, notes/assumptions/47.md). What counts as enabled, beyond the clauses spelled out
here, is the spec's decision D25 and the model's choice (`eventEnabled`, notes/assumptions/30.md). 70 R888: the controls are
as the PE sees them, each as it is or as it was before the debugger changed it, since the last context synchronization event
(`seen`, the model's reading, notes/assumptions/52.md). -/
def Obligations.DebugStateIsEnteredOnlyByHalting : Prop :=
  ∀ (a : AgentStep) (s : State), s.hal.halted = false → (agentStep a s).hal.halted = true →
    s.env.haltingAllowed = true ∧ s.power.core = .powered ∧ s.power.inReset = false ∧
      ((∃ r, a = .enterDebug r ∧ s.seen.eventEnabled r = true) ∨ (∃ f k, a = .takePending f k ∧ s.isPending f = true) ∨
        (∃ r v, a = .sysWrite r v ∧ r.trappedByTDA = true ∧ Trapped s)) ∧
      (ResetCatchFirst s → (agentStep a s).ctl.edscr.extractLsb' 0 6 = 0b100111#6) ∧
      (∀ n pc control, a = .enterDebug (.breakpoint n pc control) →
        n.toNat < s.cfg.pe.numBrp ∧ SomeControl s (.bcr n) (fun v => v.getLsbD 0 = true) ∧
          SomeControl s .edscr (fun v => v.getLsbD 14 = true) ∧ SomeControl s .oslk (fun v => v.getLsbD 0 = false)) ∧
      (∀ n access control, a = .enterDebug (.watchpoint n access control) →
        n.toNat < s.cfg.pe.numWrp ∧
          SomeControl s (.wcr n) (fun v =>
            v.getLsbD 0 = true ∧ (access.kind = .load → v.getLsbD 3 = true) ∧
              (access.kind = .store → v.getLsbD 4 = true)) ∧
          SomeControl s .edscr (fun v => v.getLsbD 14 = true) ∧ SomeControl s .oslk (fun v => v.getLsbD 0 = false))

/-! ## Identification -/

/-- 42_ed_id_aux.md R367, R369, R371, R373, R421, 45_ed_lock_pcsr_pfr_pidr.md R593, R595, R597, R599, R601: the values of
the CoreSight identification registers, where they are implemented, whatever the locks. -/
def Obligations.CoreSightIdentReads : Prop :=
  ∀ (s : State) (ad : AddrDesc), s.cfg.has.coreSightID = true →
    let i := s.cfg.ident
    IdentRead (.rdEdcidr0 ad) s 0x0000000D ∧ IdentRead (.rdEdcidr1 ad) s 0x00000090 ∧
    IdentRead (.rdEdcidr2 ad) s 0x00000005 ∧ IdentRead (.rdEdcidr3 ad) s 0x000000B1 ∧
    IdentRead (.rdEddevtype ad) s 0x00000015 ∧
    IdentRead (.rdEdpidr0 ad) s (0#24 ++ i.partNumber.extractLsb' 0 8) ∧
    IdentRead (.rdEdpidr1 ad) s (0#24 ++ i.designer.extractLsb' 0 4 ++ i.partNumber.extractLsb' 8 4) ∧
    IdentRead (.rdEdpidr2 ad) s (0#24 ++ i.revision ++ 0b1#1 ++ i.designer.extractLsb' 4 3) ∧
    IdentRead (.rdEdpidr3 ad) s (0#24 ++ i.revand ++ i.cmod) ∧
    IdentRead (.rdEdpidr4 ad) s (0#24 ++ 0b0000#4 ++ i.designerCont)

/-- 42_ed_id_aux.md R384, R387, R395, R404, R411, R416: the values of the device identification registers. That ARCHVER is
the highest implemented version is the spec's own inference (42 R393); that EDDEVID.PCSample says where EDVIDSR is present
is the model's reading (notes/assumptions/35.md). -/
def Obligations.DeviceIdentReads : Prop :=
  ∀ (s : State) (ad : AddrDesc),
    let c := s.cfg
    let i := c.ident
    let archver : BitVec 4 :=
      if s.cfg.dbg.debugv8p9 then 0b1011 else if s.cfg.dbg.debugv8p8 then 0b1010
      else if s.cfg.dbg.debugv8p4 then 0b1001 else if s.cfg.dbg.debugv8p2 then 0b1000
      else if s.cfg.dbg.debugv8p1 then 0b0111 else 0b0110
    let sampling := c.sys.pcsrv8 && !c.sys.pcsrv8p2
    let pcSample : BitVec 4 :=
      if !sampling then 0b0000 else if c.pe.haveEL2 || c.pe.haveEL3 || c.has.edvidsr then 0b0011 else 0b0010
    let hsr : BitVec 4 := if c.dbg.debugv8p9 then 0b0010 else if c.dbg.edhsr then 0b0001 else 0b0000
    IdentRead (.rdEddevaff0 ad) s
      (0b1#1 ++ BitVec.ofBool i.affU ++ 0b00000#5 ++ BitVec.ofBool i.affMT ++ i.aff2 ++ i.aff1 ++ i.aff0) ∧
    IdentRead (.rdEddevaff1 ad) s (0#24 ++ i.aff3) ∧
    IdentRead (.rdEddevid ad) s
      (0b0000#4 ++ (if c.has.edacr then 0b0001#4 else 0b0000#4) ++ 0#16 ++
        (if c.dbg.doPD then 0b0001#4 else 0b0000#4) ++ pcSample) ∧
    IdentRead (.rdEddevid1 ad) s (0#24 ++ hsr ++ (if sampling then 0b0010#4 else 0b0000#4)) ∧
    IdentRead (.rdEddevid2 ad) s 0x00000000 ∧
    (c.has.coreSightID = true →
      IdentRead (.rdEddevarch ad) s (0b01000111011#11 ++ 0b1#1 ++ 0b0000#4 ++ archver ++ 0xA15#12))

/-- 40_dbg_auth_breakpoint.md R222, R223: the value of DBGAUTHSTATUS_EL1. That Root and Realm debug are implemented exactly
with FEAT_RME is the spec's own decision D20 and the model's choice (notes/assumptions/51.md, DESIGN CHOICE). -/
def Obligations.AuthStatusRead : Prop :=
  ∀ (s : State) (ad : AddrDesc),
    let c := s.cfg
    let code := fun (impl enabled : Bool) => if impl then (if enabled then 0b11#2 else 0b10#2) else 0b00#2
    let rt := code c.sys.rme s.auth.rootInvasive
    let rl := code c.sys.rme s.auth.realmInvasive
    let sid := code c.pe.secureImpl s.auth.secureInvasive
    let snid := if c.dbg.debugv8p4 then sid else code c.pe.secureImpl s.auth.secureNoninvasive
    let nsid := code c.pe.nonSecureImpl s.auth.invasive
    let nsnid :=
      if c.dbg.debugv8p4 then code c.pe.nonSecureImpl true else code c.pe.nonSecureImpl s.auth.noninvasive
    IdentRead (.rdDbgauthstatus ad) s
      (0b0000#4 ++ rt ++ rt ++ 0#8 ++ rl ++ rl ++ 0b0000#4 ++ snid ++ sid ++ nsnid ++ nsid)

/-- 40 R224, 42 R385, R388, R405, R412, R417, 45 R563, 46 R663, and, where they are implemented, 42 R368 to R374, R396,
R422, 45 R594 to R602: a write of an identification or status register is ignored. -/
def Obligations.IdentWritesIgnored : Prop :=
  ∀ (s : State) (d : Word) (ad : AddrDesc),
    (IdentWrite (.wrDbgauthstatus d ad) s ∧ IdentWrite (.wrEddevaff0 d ad) s ∧ IdentWrite (.wrEddevaff1 d ad) s ∧
      IdentWrite (.wrEddevid d ad) s ∧ IdentWrite (.wrEddevid1 d ad) s ∧ IdentWrite (.wrEddevid2 d ad) s ∧
      IdentWrite (.wrEdlsr d ad) s ∧ IdentWrite (.wrEdprsr d ad) s) ∧
    (s.cfg.has.coreSightID = true →
      IdentWrite (.wrEdcidr0 d ad) s ∧ IdentWrite (.wrEdcidr1 d ad) s ∧ IdentWrite (.wrEdcidr2 d ad) s ∧
      IdentWrite (.wrEdcidr3 d ad) s ∧ IdentWrite (.wrEddevarch d ad) s ∧ IdentWrite (.wrEddevtype d ad) s ∧
      IdentWrite (.wrEdpidr0 d ad) s ∧ IdentWrite (.wrEdpidr1 d ad) s ∧ IdentWrite (.wrEdpidr2 d ad) s ∧
      IdentWrite (.wrEdpidr3 d ad) s ∧ IdentWrite (.wrEdpidr4 d ad) s)

/-- 42 R351, R358, 43 R431, R441, R443, R453, R456, R463, 45 R577, R587, 47 R768: a write of a feature register or of
MIDR_EL1 is ignored while the Core is powered and not double locked (EDDFR1 and EDDFR2: and the register is not zero or
the OS Lock is clear); a feature register returns ERROR with FEAT_DoPD and the Core off. -/
def Obligations.FeatureWritesIgnored : Prop :=
  ∀ (s : State) (d : Word) (ad : AddrDesc),
    (CoreOn s →
      exec (.wrMidr d ad) s = accepts s ∧ exec (.wrEdpfrLo d ad) s = accepts s ∧
      exec (.wrEdpfrHi d ad) s = accepts s ∧ exec (.wrEdaa32pfrLo d ad) s = accepts s ∧
      exec (.wrEdaa32pfrHi d ad) s = accepts s ∧ exec (.wrEddfrLo d ad) s = accepts s ∧
      exec (.wrEddfrHi d ad) s = accepts s) ∧
    (CoreOn s → dfr1 s ≠ 0 ∨ s.osLock = false →
      exec (.wrEddfr1Lo d ad) s = accepts s ∧ exec (.wrEddfr1Hi d ad) s = accepts s) ∧
    (CoreOn s → dfr2 s ≠ 0 ∨ s.osLock = false →
      exec (.wrEddfr2Lo d ad) s = accepts s ∧ exec (.wrEddfr2Hi d ad) s = accepts s) ∧
    (¬Reachable s →
      ∀ i ∈ [Instr.wrEdpfrLo d ad, .wrEdpfrHi d ad, .wrEdaa32pfrLo d ad, .wrEdaa32pfrHi d ad, .wrEddfrLo d ad,
        .wrEddfrHi d ad, .wrEddfr1Lo d ad, .wrEddfr1Hi d ad, .wrEddfr2Lo d ad, .wrEddfr2Hi d ad], exec i s = errors s)

/-- 42 R351 to R357, 45 R577 to R586, 47 R768: what MIDR_EL1, EDAA32PFR and EDPFR read while the Core is powered and not
double locked, whatever the OS Lock; bits [63:48], [43:40] and [31:28] of EDPFR are UNKNOWN. With FEAT_DoPD and the Core
off the two feature registers return ERROR. -/
def Obligations.ProcessorFeatureReads : Prop :=
  ∀ (s : State) (ad : AddrDesc),
    let p := s.cfg.pfr
    let bit4 := fun (b : Bool) => if b then 0b0001#4 else 0b0000#4
    (CoreOn s →
      exec (.rdMidr ad) s = reads s s.cfg.ident.midr ∧
      exec (.rdEdaa32pfrLo ad) s = reads s
        (0#12 ++ (if p.aa32PMSA = 0 ∧ p.aa32VMSA = 0b1111 then p.aa32MsaFrac else 0b0000#4) ++
          (if p.el3 = 0 then p.aa32EL3 else 0b0000#4) ++ (if p.el2 = 0 then p.aa32EL2 else 0b0000#4) ++
          p.aa32PMSA ++ p.aa32VMSA) ∧
      exec (.rdEdaa32pfrHi ad) s = reads s 0 ∧
      (∃ u : BitVec 4, exec (.rdEdpfrLo ad) s = reads s
        (u ++ p.gic ++ p.advSIMD ++ p.fp ++ p.el3 ++ p.el2 ++ p.el1 ++ p.el0)) ∧
      (∃ (u : BitVec 16) (u' : BitVec 4), exec (.rdEdpfrHi ad) s = reads s
        (u ++ p.amu ++ u' ++ bit4 s.cfg.sys.sel2 ++ bit4 s.cfg.sys.sve))) ∧
    (¬Reachable s →
      ∀ i ∈ [Instr.rdEdpfrLo ad, .rdEdpfrHi ad, .rdEdaa32pfrLo ad, .rdEdaa32pfrHi ad], exec i s = errors s)

/-- 43_ed_feature.md R431 to R440, R443 to R452, R456 to R462: what EDDFR, EDDFR1 and EDDFR2 read while the Core is powered
and not double locked, EDDFR whatever the OS Lock, EDDFR1 and EDDFR2 if the register is not zero or the OS Lock is clear,
on an implementation that obeys the constraints of the spec (`Config.wf`). With FEAT_DoPD and the Core off they return
ERROR. -/
def Obligations.DebugFeatureReads : Prop :=
  ∀ (s : State) (ad : AddrDesc), s.cfg.wf = true →
    let c := s.cfg
    let f := c.dfr
    let bit4 := fun (b : Bool) => if b then 0b0001#4 else 0b0000#4
    let count4 := fun (n : Nat) => if 16 ≤ n then 0b1111#4 else BitVec.ofNat 4 (n - 1)
    let count8 := fun (shown : Bool) (n : Nat) => if 16 ≤ n ∧ c.dbg.debugv8p9 = true ∨ shown = true
      then BitVec.ofNat 8 (n - 1) else 0#8
    let bwe := if c.dbg.bwe2 then 0b0010#4 else if c.dbg.bwe && f.bweShown then 0b0001#4 else 0b0000#4
    let dfr1Lo : Word :=
      count8 f.dfr1CtxCmps c.pe.numCtxCmp ++ count8 f.dfr1Wrps c.pe.numWrp ++ count8 f.dfr1Brps c.pe.numBrp ++ f.syspmuid
    let dfr1Hi : Word :=
      (if c.dbg.able then BitVec.ofNat 8 (c.pe.numAblCmp - 1) else 0#8) ++ f.dpfzs ++ f.ebep ++ f.ite ++
        bit4 c.dbg.able ++ f.pmicntr ++ f.spmu
    let dfr2Lo : Word := 0#4 ++ f.trbeExc ++ f.speNVM ++ f.speExc ++ 0#8 ++ bwe ++ f.step
    (CoreOn s →
      (∃ u : BitVec 4, exec (.rdEddfrLo ad) s = reads s
        (count4 c.pe.numCtxCmp ++ f.sebep ++ count4 c.pe.numWrp ++ f.pmss ++ count4 c.pe.numBrp ++ f.pmuVer ++
          f.traceVer ++ u)) ∧
      (∃ (u : BitVec 4) (u' u'' : BitVec 8) (x : BitVec 4), exec (.rdEddfrHi ad) s = reads s
        (u ++ bit4 c.sys.trbeExt ++ u' ++ (if c.sys.trbeExt then f.traceBuffer else x) ++ bit4 c.sys.trf ++ u''))) ∧
    (CoreOn s → dfr1Lo ≠ 0 ∨ dfr1Hi ≠ 0 ∨ s.osLock = false →
      exec (.rdEddfr1Lo ad) s = reads s dfr1Lo ∧ exec (.rdEddfr1Hi ad) s = reads s dfr1Hi) ∧
    (CoreOn s → dfr2Lo ≠ 0 ∨ s.osLock = false →
      exec (.rdEddfr2Lo ad) s = reads s dfr2Lo ∧ exec (.rdEddfr2Hi ad) s = reads s 0) ∧
    (¬Reachable s →
      ∀ i ∈ [Instr.rdEddfrLo ad, .rdEddfrHi ad, .rdEddfr1Lo ad, .rdEddfr1Hi ad, .rdEddfr2Lo ad, .rdEddfr2Hi ad],
        exec i s = errors s)

/-! ## Locks -/

/-- 45_ed_lock_pcsr_pfr_pidr.md R551 to R554, R562: the key 0xC5ACCE55 clears the Software Lock and any other value sets
it, through the memory-mapped interface only (D29, the spec's own decision, notes/assumptions/55.md); a read of EDLAR returns
no stored value; EDLSR shows the lock to that interface alone. -/
def Obligations.SoftwareLockAccess : Prop :=
  ∀ (s : State) (d : Word) (ad : AddrDesc),
    (Reachable s → s.cfg.hasSoftwareLock = true → ad.memoryMapped = true →
      exec (.wrEdlar d ad) s =
        .next { s with lock := { s.lock with slk := decide (d ≠ 0xC5ACCE55) }, response := .okWrite }) ∧
    (Reachable s → (s.cfg.hasSoftwareLock = false ∨ ad.memoryMapped = false) → exec (.wrEdlar d ad) s = accepts s) ∧
    (¬Reachable s → exec (.wrEdlar d ad) s = errors s ∧ exec (.rdEdlar ad) s = errors s) ∧
    (Reachable s → s.cfg.hasSoftwareLock = true → ∃ v, exec (.rdEdlar ad) s = reads s v) ∧
    (Reachable s → s.cfg.hasSoftwareLock = false → exec (.rdEdlar ad) s = reads s 0) ∧
    IdentRead (.rdEdlsr ad) s
      (if s.cfg.hasSoftwareLock = true ∧ ad.memoryMapped = true
        then 0#29 ++ 0b0#1 ++ BitVec.ofBool s.lock.slk ++ 0b1#1 else 0x00000000)

/-- 47_ed_status_control.md R771, R773, R774: a write of OSLAR_EL1 copies bit 0 to the OS Lock and makes an enabled OS
Unlock Catch pending when it unlocks; a read returns no stored value; a prohibited access returns ERROR and sets SDAD
with FEAT_Debugv8p2, and without it if the implementation does so. 10_state.md R49: so does a write by PE software, without
these checks. That only the change from 1 to 0 is caught, and that FEAT_DoPD makes the enable an input, are the model's
choices (notes/assumptions/36.md), as is that a write of DBGOSLAR is a step of the same kind (notes/assumptions/50.md). The
PE's own write it sees at once (20_memory.md R161; notes/assumptions/52.md). -/
def Obligations.OsLockAccess : Prop :=
  ∀ (s : State) (d : Word) (ad : AddrDesc),
    let written := fun (b : Bool) =>
      { s with
        lock := { s.lock with oslk := b }
        ctl :=
          { s.ctl with
            edesr :=
              if s.lock.oslk = true ∧ b = false ∧
                (if s.cfg.dbg.doPD then s.env.osUnlockCatch else s.ctl.edecr.getLsbD 0) = true
              then s.ctl.edesr ||| 1 else s.ctl.edesr } }
    let admitted := s.allowDebug ad = true ∨
      (s.cfg.dbg.debugv8p2 = false ∧ s.cfg.opt.oslarErrorWhenDisallowed = false)
    (CoreOn s → admitted → s.softLock ad = false →
      exec (.wrOslar d ad) s = .next { written (d.getLsbD 0) with response := .okWrite }) ∧
    (CoreOn s → admitted → s.softLock ad = true → exec (.wrOslar d ad) s = accepts s) ∧
    (CoreOn s → admitted → ∃ v, exec (.rdOslar ad) s = reads s v) ∧
    (¬CoreOn s → exec (.wrOslar d ad) s = errors s ∧ exec (.rdOslar ad) s = errors s) ∧
    (CoreOn s → ¬admitted → exec (.wrOslar d ad) s = sdadErrors s ∧ exec (.rdOslar ad) s = sdadErrors s) ∧
    (Executes s → ∀ v : Dword, Settling s (bitsOf .oslk 1)
      (fun _ t => t = { written (v.getLsbD 0) with lateControls := t.lateControls }) (agentStep (.sysWrite .oslar v) s))

/-! ## Breakpoints and watchpoints -/

/-- 40_dbg_auth_breakpoint.md R226, R235, R238, R239: a write of DBGBCR<n>_EL1[31:0] stores exactly its implemented fields,
in that register alone; a read returns them, BAS as ones where it is RES1 (without FEAT_AA32, and for a context matching
type) and reserved bits as zeros, while LBN and LBNX are UNKNOWN unless BT is 0b0001 or 0b0101. 10_state.md R49, R52: so
does a write by PE software through the AArch64 or the AArch32 view, unless EDSCR.TDA, as the PE sees it (70 R888,
notes/assumptions/52.md), traps it; the PE sees its own write at once (20_memory.md R161). That BT2 is a field exactly
where n is below NUM_ABL_CMP is the spec's decision D38 and the model's choice (notes/assumptions/34.md). -/
def Obligations.BreakpointControl : Prop :=
  ∀ (s : State) (n : Index) (d : Word) (v : Dword) (ad : AddrDesc), n.toNat < s.cfg.pe.numBrp → PlainStorage s →
    let stored := fun k => decide (k < 32) && bcrField s.cfg n k
    (Permitted s ad → s.softLock ad = false → ∃ t, exec (.wrDbgbcrLo n d ad) s = .next t ∧ OnlyBcr s t n ∧
      WritesHalf stored false d (s.bcr n) (t.bcr n)) ∧
    (Permitted s ad → s.softLock ad = true → exec (.wrDbgbcrLo n d ad) s = accepts s) ∧
    (Permitted s ad → ∃ w, exec (.rdDbgbcrLo n ad) s = reads s w ∧
      ∀ k, k < 32 → (s.bt n = 0b0001 ∨ s.bt n = 0b0101 ∨ lbnBit s.cfg k = false) →
        w.getLsbD k =
          if 5 ≤ k ∧ k ≤ 8 ∧ (s.cfg.dbg.aa32 = false ∨ isAddressType (s.bt n) = false) then true
          else bcrField s.cfg n k && (s.bcr n).getLsbD k) ∧
    GuardedErrors (.wrDbgbcrLo n d ad) s ∧ GuardedErrors (.rdDbgbcrLo n ad) s ∧
    (∀ p ∈ [(SysReg.dbgbcr n, BitVec.allOnes 64), (.dbgbcr32 n, 0xFFFFFFFF)],
      TrappableWrite p.1 v s (Settling s (bitsOf (.bcr n) p.2) fun s t =>
        BcrFrame s t n ∧ WritesDword stored v (s.bcr n) (t.bcr n)))

/-- 41_dbg_claim_dcc_watchpoint.md R321, R332, R333: a write of DBGWCR<n>_EL1[31:0] stores exactly its implemented fields,
in that register alone; a read returns them, while LBN and LBNX are UNKNOWN unless WT is 1. 10_state.md R49, R58: so does
a write by PE software through the AArch64 or the AArch32 view, unless EDSCR.TDA, as the PE sees it (70 R888,
notes/assumptions/52.md), traps it; the PE sees its own write at once (20_memory.md R161). -/
def Obligations.WatchpointControl : Prop :=
  ∀ (s : State) (n : Index) (d : Word) (v : Dword) (ad : AddrDesc), n.toNat < s.cfg.pe.numWrp → PlainStorage s →
    let stored := fun k => decide (k < 32) && wcrField s.cfg k
    (Permitted s ad → s.softLock ad = false → ∃ t, exec (.wrDbgwcrLo n d ad) s = .next t ∧ OnlyWcr s t n ∧
      WritesHalf stored false d (s.wcr n) (t.wcr n)) ∧
    (Permitted s ad → s.softLock ad = true → exec (.wrDbgwcrLo n d ad) s = accepts s) ∧
    (Permitted s ad → ∃ w, exec (.rdDbgwcrLo n ad) s = reads s w ∧
      ∀ k, k < 32 → ((s.wcr n).getLsbD 20 = true ∨ lbnBit s.cfg k = false) →
        w.getLsbD k = (wcrField s.cfg k && (s.wcr n).getLsbD k)) ∧
    GuardedErrors (.wrDbgwcrLo n d ad) s ∧ GuardedErrors (.rdDbgwcrLo n ad) s ∧
    (∀ p ∈ [(SysReg.dbgwcr n, BitVec.allOnes 64), (.dbgwcr32 n, 0xFFFFFFFF)],
      TrappableWrite p.1 v s (Settling s (bitsOf (.wcr n) p.2) fun s t =>
        WcrFrame s t n ∧ WritesDword stored v (s.wcr n) (t.wcr n)))

/-- 40_dbg_auth_breakpoint.md R238, R239, 41 R332, R333: with FEAT_Debugv8p9 the high words of the control registers read
0 and discard writes. -/
def Obligations.ControlHighWords : Prop :=
  ∀ (s : State) (n : Index) (d : Word) (ad : AddrDesc), s.cfg.dbg.debugv8p9 = true → PlainStorage s →
    (n.toNat < s.cfg.pe.numBrp →
      (Permitted s ad → exec (.rdDbgbcrHi n ad) s = reads s 0 ∧ exec (.wrDbgbcrHi n d ad) s = accepts s) ∧
      GuardedErrors (.rdDbgbcrHi n ad) s ∧ GuardedErrors (.wrDbgbcrHi n d ad) s) ∧
    (n.toNat < s.cfg.pe.numWrp →
      (Permitted s ad → exec (.rdDbgwcrHi n ad) s = reads s 0 ∧ exec (.wrDbgwcrHi n d ad) s = accepts s) ∧
      GuardedErrors (.rdDbgwcrHi n ad) s ∧ GuardedErrors (.wrDbgwcrHi n d ad) s)

/-- 40_dbg_auth_breakpoint.md R241 to R249, R251: a write of one word of DBGBVR<n>_EL1 stores the bits of the layout that
DBGBCR<n>_EL1.BT selects, RESS bits where they can be written, and leaves the other word alone. 10_state.md R49: PE
software writes both words through the AArch64 view, and one each through DBGBVR<n> and DBGBXVR<n>, unless EDSCR.TDA,
as the PE sees it (70 R888, notes/assumptions/52.md), traps the access; the PE sees its own write at once (20_memory.md
R161). -/
def Obligations.BreakpointValueWrite : Prop :=
  ∀ (s : State) (n : Index) (d : Word) (v : Dword) (ad : AddrDesc), n.toNat < s.cfg.pe.numBrp → PlainStorage s →
    let wide := s.cfg.sys.vmid16 && s.pe.vtcrVS && s.pe.el2AA64
    let stored := fun k => bvrField s.cfg wide (s.bt n) k || (isAddressType (s.bt n) && ressField s.cfg k)
    (Permitted s ad → s.softLock ad = false →
      (∃ t, exec (.wrDbgbvrLo n d ad) s = .next t ∧ OnlyBvr s t n ∧ WritesHalf stored false d (s.bvr n) (t.bvr n)) ∧
      (∃ t, exec (.wrDbgbvrHi n d ad) s = .next t ∧ OnlyBvr s t n ∧ WritesHalf stored true d (s.bvr n) (t.bvr n))) ∧
    (Permitted s ad → s.softLock ad = true →
      exec (.wrDbgbvrLo n d ad) s = accepts s ∧ exec (.wrDbgbvrHi n d ad) s = accepts s) ∧
    GuardedErrors (.wrDbgbvrLo n d ad) s ∧ GuardedErrors (.wrDbgbvrHi n d ad) s ∧
    TrappableWrite (.dbgbvr n) v s (Settling s (bitsOf (.bvr n) (BitVec.allOnes 64)) fun s t =>
      BvrFrame s t n ∧ WritesDword stored v (s.bvr n) (t.bvr n)) ∧
    TrappableWrite (.dbgbvr32 n) (0#32 ++ d) s (Settling s (bitsOf (.bvr n) 0xFFFFFFFF) fun s t =>
      BvrFrame s t n ∧ WritesHalf stored false d (s.bvr n) (t.bvr n)) ∧
    TrappableWrite (.dbgbxvr n) (0#32 ++ d) s (Settling s (bitsOf (.bvr n) 0xFFFFFFFF00000000) fun s t =>
      BvrFrame s t n ∧ WritesHalf stored true d (s.bvr n) (t.bvr n))

/-- 40_dbg_auth_breakpoint.md R241 to R250: the two words of DBGBVR<n>_EL1 show the bits of the selected layout; RESS bits
show the top address bit where they cannot be written, and what was stored where they can. -/
def Obligations.BreakpointValueRead : Prop :=
  ∀ (s : State) (n : Index) (ad : AddrDesc), n.toNat < s.cfg.pe.numBrp → PlainStorage s →
    let wide := s.cfg.sys.vmid16 && s.pe.vtcrVS && s.pe.el2AA64
    let shown := fun k =>
      if isAddressType (s.bt n) && decide (topBit s.cfg < k)
      then (if s.cfg.opt.ressWritable then (s.bvr n).getLsbD k else (s.bvr n).getLsbD (topBit s.cfg))
      else bvrField s.cfg wide (s.bt n) k && (s.bvr n).getLsbD k
    (Permitted s ad → ∃ lo hi, exec (.rdDbgbvrLo n ad) s = reads s lo ∧ exec (.rdDbgbvrHi n ad) s = reads s hi ∧
      ∀ k, k < 32 → lo.getLsbD k = shown k ∧ hi.getLsbD k = shown (32 + k)) ∧
    GuardedErrors (.rdDbgbvrLo n ad) s ∧ GuardedErrors (.rdDbgbvrHi n ad) s

/-- 41_dbg_claim_dcc_watchpoint.md R342 to R344: a write of one word of DBGWVR<n>_EL1 stores the address bits, and RESS
bits where they can be written; the two words show the address, RESS bits as copies of its top bit otherwise. 10_state.md
R49: PE software writes both words through the AArch64 view, and the low one through DBGWVR<n>, unless EDSCR.TDA, as the PE
sees it (70 R888, notes/assumptions/52.md), traps the access; the PE sees its own write at once (20_memory.md R161). -/
def Obligations.WatchpointValueWords : Prop :=
  ∀ (s : State) (n : Index) (d : Word) (v : Dword) (ad : AddrDesc), n.toNat < s.cfg.pe.numWrp → PlainStorage s →
    let stored := fun k => decide (2 ≤ k ∧ k ≤ topBit s.cfg) || ressField s.cfg k
    let shown := fun k =>
      if topBit s.cfg < k
      then (if s.cfg.opt.ressWritable then (s.wvr n).getLsbD k else (s.wvr n).getLsbD (topBit s.cfg))
      else decide (2 ≤ k) && (s.wvr n).getLsbD k
    (Permitted s ad → s.softLock ad = false →
      (∃ t, exec (.wrDbgwvrLo n d ad) s = .next t ∧ OnlyWvr s t n ∧ WritesHalf stored false d (s.wvr n) (t.wvr n)) ∧
      (∃ t, exec (.wrDbgwvrHi n d ad) s = .next t ∧ OnlyWvr s t n ∧ WritesHalf stored true d (s.wvr n) (t.wvr n))) ∧
    (Permitted s ad → s.softLock ad = true →
      exec (.wrDbgwvrLo n d ad) s = accepts s ∧ exec (.wrDbgwvrHi n d ad) s = accepts s) ∧
    (Permitted s ad → ∃ lo hi, exec (.rdDbgwvrLo n ad) s = reads s lo ∧ exec (.rdDbgwvrHi n ad) s = reads s hi ∧
      ∀ k, k < 32 → lo.getLsbD k = shown k ∧ hi.getLsbD k = shown (32 + k)) ∧
    (∀ i ∈ [Instr.wrDbgwvrLo n d ad, .wrDbgwvrHi n d ad, .rdDbgwvrLo n ad, .rdDbgwvrHi n ad], GuardedErrors i s) ∧
    TrappableWrite (.dbgwvr n) v s (Settling s (bitsOf (.wvr n) (BitVec.allOnes 64)) fun s t =>
      WvrFrame s t n ∧ WritesDword stored v (s.wvr n) (t.wvr n)) ∧
    TrappableWrite (.dbgwvr32 n) (0#32 ++ d) s (Settling s (bitsOf (.wvr n) 0xFFFFFFFF) fun s t =>
      WvrFrame s t n ∧ WritesHalf stored false d (s.wvr n) (t.wvr n))

/-- 40_dbg_auth_breakpoint.md R232: the registers of an unimplemented breakpoint or watchpoint read 0 and discard writes
where the Core is powered, no lock is set and the access is allowed; elsewhere each access does that or returns ERROR
(with EDPRSR.SDAD where 60_exceptions.md R801 sets it). -/
def Obligations.AbsentArrayRegisters : Prop :=
  ∀ (s : State) (n : Index) (d : Word) (ad : AddrDesc),
    (s.cfg.pe.numBrp ≤ n.toNat →
      Res0Or (Permitted s ad) [errors s, sdadErrors s]
        [.rdDbgbvrLo n ad, .rdDbgbvrHi n ad, .rdDbgbcrLo n ad, .rdDbgbcrHi n ad]
        [.wrDbgbvrLo n d ad, .wrDbgbvrHi n d ad, .wrDbgbcrLo n d ad, .wrDbgbcrHi n d ad] s) ∧
    (s.cfg.pe.numWrp ≤ n.toNat →
      Res0Or (Permitted s ad) [errors s, sdadErrors s]
        [.rdDbgwvrLo n ad, .rdDbgwvrHi n ad, .rdDbgwcrLo n ad, .rdDbgwcrHi n ad]
        [.wrDbgwvrLo n d ad, .wrDbgwvrHi n d ad, .wrDbgwcrLo n d ad, .wrDbgwcrHi n d ad] s)

/-! ## CLAIM tags, DCC and ITR -/

/-- 41_dbg_claim_dcc_watchpoint.md R281, R283, R284: the read and the write of DBGCLAIMCLR_EL1. -/
def Obligations.ClaimClear : Prop :=
  ∀ (s : State) (d : Word) (ad : AddrDesc),
    LockedRead (.rdDbgclaimclr ad) s (0x000000#24 ++ s.dcc.claim) ∧
    LockedWrite (.wrDbgclaimclr d ad) s
      { s with dcc := { s.dcc with claim := s.dcc.claim &&& ~~~(d.extractLsb' 0 8) } }

/-- 41_dbg_claim_dcc_watchpoint.md R288, R289: the read and the write of DBGCLAIMSET_EL1. -/
def Obligations.ClaimSet : Prop :=
  ∀ (s : State) (d : Word) (ad : AddrDesc),
    LockedRead (.rdDbgclaimset ad) s 0x000000FF ∧
    LockedWrite (.wrDbgclaimset d ad) s
      { s with dcc := { s.dcc with claim := s.dcc.claim ||| d.extractLsb' 0 8 } }

/-- 41_dbg_claim_dcc_watchpoint.md R301 to R303: in Normal access mode, with ERR not in the way, a write of DBGDTRRX_EL0
fills an empty DTRRX, or is dropped and signals an overrun; a read returns DTRRX and has no side effect. -/
def Obligations.DtrRxAccess : Prop :=
  ∀ (s : State) (d : Word) (ad : AddrDesc), NormalMode s →
    (DtrLive s → s.ctl.edscr.getLsbD 30 = false →
      LockedWrite (.wrDbgdtrrx d ad) s
        { s with
          dcc := { s.dcc with dtrrx := d }
          ctl := { s.ctl with edscr := s.ctl.edscr ||| 0x40000000 } }) ∧
    (DtrLive s → s.ctl.edscr.getLsbD 30 = true →
      LockedWrite (.wrDbgdtrrx d ad) s { s with ctl := { s.ctl with edscr := s.ctl.edscr ||| 0x08000040 } }) ∧
    LockedRead (.rdDbgdtrrx ad) s s.dcc.dtrrx

/-- 41_dbg_claim_dcc_watchpoint.md R311 to R313: in Normal access mode, with ERR not in the way, a read of DBGDTRTX_EL0
takes a full DTRTX, or returns an UNKNOWN value and signals an underrun; a write stores DTRTX and changes no flag. Under
the Software Lock the read has no side effect. -/
def Obligations.DtrTxAccess : Prop :=
  ∀ (s : State) (d : Word) (ad : AddrDesc), NormalMode s →
    (Permitted s ad → s.softLock ad = false → DtrLive s → s.ctl.edscr.getLsbD 29 = true →
      exec (.rdDbgdtrtx ad) s =
        .next { s with
          ctl := { s.ctl with edscr := s.ctl.edscr &&& ~~~0x20000000 }, response := .okRead s.dcc.dtrtx }) ∧
    (Permitted s ad → s.softLock ad = false → DtrLive s → s.ctl.edscr.getLsbD 29 = false →
      ∃ v, exec (.rdDbgdtrtx ad) s =
        .next { s with ctl := { s.ctl with edscr := s.ctl.edscr ||| 0x04000040 }, response := .okRead v }) ∧
    (Permitted s ad → s.softLock ad = true → s.ctl.edscr.getLsbD 29 = true →
      exec (.rdDbgdtrtx ad) s = reads s s.dcc.dtrtx) ∧
    (Permitted s ad → s.softLock ad = true → s.ctl.edscr.getLsbD 29 = false →
      ∃ v, exec (.rdDbgdtrtx ad) s = reads s v) ∧
    (Permitted s ad → s.softLock ad = false →
      exec (.wrDbgdtrtx d ad) s = .next { s with dcc := { s.dcc with dtrtx := d }, response := .okWrite }) ∧
    (Permitted s ad → s.softLock ad = true → exec (.wrDbgdtrtx d ad) s = accepts s) ∧
    GuardedErrors (.rdDbgdtrtx ad) s ∧ GuardedErrors (.wrDbgdtrtx d ad) s

/-- 41_dbg_claim_dcc_watchpoint.md R305: where DTR_access_when_ERR is no_side_effects, a write of DBGDTRRX_EL0 and a read of
DBGDTRTX_EL0 in Normal access mode change nothing while EDSCR.ERR is 1. That parameter is the spec's own, D21, from general
knowledge, and the model's choice (notes/assumptions/22.md, DESIGN CHOICE). Of the other two accesses the write of
DBGDTRTX_EL0 stores DTRTX as ever (`DtrTxAccess`), and the read of DBGDTRRX_EL0 has no side effect (`DtrRxAccess`). -/
def Obligations.DtrAccessWhileError : Prop :=
  ∀ (s : State) (d : Word) (ad : AddrDesc), NormalMode s → s.ctl.edscr.getLsbD 6 = true →
    s.cfg.opt.dtrErrAsWritten = false →
    (Unlocked s → exec (.wrDbgdtrrx d ad) s = accepts s) ∧
    (Permitted s ad → s.ctl.edscr.getLsbD 29 = true → exec (.rdDbgdtrtx ad) s = reads s s.dcc.dtrtx) ∧
    (Permitted s ad → s.ctl.edscr.getLsbD 29 = false → ∃ v, exec (.rdDbgdtrtx ad) s = reads s v)

/-- 44_ed_event_control.md R533 to R537: a write of EDITR is ignored in Non-debug state; in Debug state, in Normal access
mode and with ERR clear, it fills an empty ITR, or is dropped and signals an overrun; with ERR set it is ignored. A read
returns no stored value. The overrun, the ERR gate and the fill are not printed in the source: they are the spec's
decision D27 and the model's choice (notes/assumptions/23.md); that ITE 0 then stands for the word in ITR, and for no Memory
access mode operation, is the model's own note (`memoryOp`, notes/assumptions/21.md). -/
def Obligations.ItrAccess : Prop :=
  ∀ (s : State) (d : Word) (ad : AddrDesc), NormalMode s →
    (s.hal.halted = false → LockedWrite (.wrEditr d ad) s s) ∧
    (s.hal.halted = true → s.ctl.edscr.getLsbD 6 = true → LockedWrite (.wrEditr d ad) s s) ∧
    (s.hal.halted = true → s.ctl.edscr.getLsbD 6 = false → s.ctl.edscr.getLsbD 24 = true →
      LockedWrite (.wrEditr d ad) s
        { s with
          dcc := { s.dcc with itr := d, memoryOp := false }
          ctl := { s.ctl with edscr := s.ctl.edscr &&& ~~~0x01000000 } }) ∧
    (s.hal.halted = true → s.ctl.edscr.getLsbD 6 = false → s.ctl.edscr.getLsbD 24 = false →
      LockedWrite (.wrEditr d ad) s { s with ctl := { s.ctl with edscr := s.ctl.edscr ||| 0x10000040 } }) ∧
    (Unlocked s → ∃ v, exec (.rdEditr ad) s = reads s v) ∧ (¬Unlocked s → exec (.rdEditr ad) s = errors s)

/-- 46_ed_power_reset.md R669 to R674: the three actions of EDRCR, each by its own bit; a read returns no stored value. -/
def Obligations.ReserveControlAccess : Prop :=
  ∀ (s : State) (d : Word) (ad : AddrDesc),
    let pipe : Word := if d.getLsbD 3 then 0x02000000 else 0
    let errs : Word := if d.getLsbD 2 then (if s.hal.halted then 0x1C000040 else 0x0C000040) else 0
    LockedWrite (.wrEdrcr d ad) s
      { s with
        ctl := { s.ctl with edscr := s.ctl.edscr &&& ~~~(pipe ||| errs) }
        hal := { s.hal with imprecise := s.hal.imprecise || (d.getLsbD 4 && s.cfg.has.cbrrq) } } ∧
    (Unlocked s → ∃ v, exec (.rdEdrcr ad) s = reads s v) ∧ (¬Unlocked s → exec (.rdEdrcr ad) s = errors s)

/-! ## Event control -/

/-- 44_ed_event_control.md R471, R478, R479: EDECCR shows and stores exactly its implemented fields. R473 to R477: which of
them enables the Exception Catch debug event for which Exception level, Security state and kind (`catchEnabled`); that a
coarse-grained bit enables exception return as well as entry is the model's choice (notes/assumptions/30.md). -/
def Obligations.ExceptionCatchControl : Prop :=
  ∀ (s : State) (d : Word) (ad : AddrDesc) (el : BitVec 2) (ss : SecState) (kind : CatchKind),
    (PlainStorage s →
      (∃ v, LockedRead (.rdEdeccr ad) s v ∧ ShowsFields (edeccrField s.cfg) s.ctl.edeccr v) ∧
      (∃ w, LockedWrite (.wrEdeccr d ad) s { s with ctl := { s.ctl with edeccr := w } } ∧
        WritesWord (edeccrField s.cfg) d s.ctl.edeccr w)) ∧
    s.eventEnabled (.exceptionCatch el ss kind) = catchEnabled s.cfg s.ctl.edeccr el ss kind

/-- 44_ed_event_control.md R483, R487, R488: EDECR shows and stores exactly its implemented fields, whatever the OS Lock.
TRBE, TRCE and PME are not settled while the Core is off; a write of another value of SS in Non-debug state is remembered
in the model's own flag ssLoose (44 R485; notes/assumptions/37.md, DESIGN CHOICE). -/
def Obligations.ExecutionControl : Prop :=
  ∀ (s : State) (d : Word) (ad : AddrDesc), PlainStorage s →
    (Reachable s → ∃ v, exec (.rdEdecr ad) s = reads s v ∧
      ∀ k, k < 32 → (s.powered = true ∨ edecrCoreField s.cfg k = false) →
        v.getLsbD k = (edecrField s.cfg k && s.ctl.edecr.getLsbD k)) ∧
    (Reachable s → s.softLock ad = false → ∃ w,
      exec (.wrEdecr d ad) s =
        .next { s with
          ctl := { s.ctl with edecr := w }
          hal :=
            { s.hal with
              ssLoose := s.hal.ssLoose || (!s.hal.halted && (s.ctl.edecr.getLsbD 2 != d.getLsbD 2)) }
          response := .okWrite } ∧
      WritesWord (edecrField s.cfg) d s.ctl.edecr w) ∧
    (Reachable s → s.softLock ad = true → exec (.wrEdecr d ad) s = accepts s) ∧
    (¬Reachable s → exec (.rdEdecr ad) s = errors s ∧ exec (.wrEdecr d ad) s = errors s)

/-- 44_ed_event_control.md R495, R501, R502: EDESR shows its pending bits; writing 1 clears one, writing 0 does nothing,
and no write sets one. The OS Lock does not matter. -/
def Obligations.EventStatus : Prop :=
  ∀ (s : State) (d : Word) (ad : AddrDesc), PlainStorage s →
    (CoreOn s → ∃ v, exec (.rdEdesr ad) s = reads s v ∧ ShowsFields (edesrField s.cfg) s.ctl.edesr v) ∧
    (CoreOn s → s.softLock ad = false → ∃ w,
      exec (.wrEdesr d ad) s = .next { s with ctl := { s.ctl with edesr := w }, response := .okWrite } ∧
      ∀ k, k < 32 → w.getLsbD k = (s.ctl.edesr.getLsbD k && !(edesrField s.cfg k && d.getLsbD k))) ∧
    (CoreOn s → s.softLock ad = true → exec (.wrEdesr d ad) s = accepts s) ∧
    (¬CoreOn s → exec (.rdEdesr ad) s = errors s ∧ exec (.wrEdesr d ad) s = errors s)

/-- 44_ed_event_control.md R511, R513, R520, R521, 47_ed_status_control.md R761, R762: while the PE is halted by a
watchpoint, EDHSR (where it is implemented) shows the recorded syndrome, WPT only where WPTV is 1, and EDWAR, if the
syndrome calls it valid, the recorded address, bits [63:32] only if it was taken from AArch64 state; otherwise their values
are UNKNOWN. Writes are ignored. -/
def Obligations.WatchpointSyndromeAndAddress : Prop :=
  ∀ (s : State) (d : Word) (ad : AddrDesc),
    let byWatchpoint := s.hal.halted = true ∧ s.ctl.edscr.extractLsb' 0 6 = 0b101011#6
    (s.cfg.dbg.edhsr = true →
      (byWatchpoint → s.hal.edhsr.getLsbD 17 = true → LockedRead (.rdEdhsrLo ad) s (s.hal.edhsr.extractLsb' 0 32)) ∧
      (byWatchpoint → ∃ v, LockedRead (.rdEdhsrLo ad) s v ∧
        ∀ k, k < 32 → (k < 18 ∨ 23 < k) → v.getLsbD k = s.hal.edhsr.getLsbD k) ∧
      (byWatchpoint → LockedRead (.rdEdhsrHi ad) s (s.hal.edhsr.extractLsb' 32 32)) ∧
      (∃ v, LockedRead (.rdEdhsrLo ad) s v) ∧ (∃ v, LockedRead (.rdEdhsrHi ad) s v) ∧
      (Unlocked s → exec (.wrEdhsrLo d ad) s = accepts s ∧ exec (.wrEdhsrHi d ad) s = accepts s) ∧
      (¬Unlocked s → exec (.wrEdhsrLo d ad) s = errors s ∧ exec (.wrEdhsrHi d ad) s = errors s)) ∧
    (byWatchpoint → (s.cfg.dbg.edhsr = false ∨ s.hal.edhsr.getLsbD 10 = false) →
      LockedRead (.rdEdwarLo ad) s (s.hal.edwar.extractLsb' 0 32) ∧
      (s.hal.edwarAA32 = false → LockedRead (.rdEdwarHi ad) s (s.hal.edwar.extractLsb' 32 32))) ∧
    (∃ v, LockedRead (.rdEdwarLo ad) s v) ∧ (∃ v, LockedRead (.rdEdwarHi ad) s v) ∧
    (Unlocked s → exec (.wrEdwarLo d ad) s = accepts s ∧ exec (.wrEdwarHi d ad) s = accepts s) ∧
    (¬Unlocked s → exec (.wrEdwarLo d ad) s = errors s ∧ exec (.wrEdwarHi d ad) s = errors s)

/-- 44_ed_event_control.md R529, R530, 42_ed_id_aux.md R361, R363, R364: where they are implemented, with the Core powered
and neither the OS Lock nor the OS Double Lock set, EDITCTRL stores its bit 0 and EDACR the whole word, unless the Software
Lock is set (which bits of EDACR are stored is the model's choice, notes/assumptions/20.md). R360, R361: without FEAT_DoPD,
with the OS Lock set or the Core off, an access to EDACR through the external debug interface completes, shows the bits that
must be preserved over power down, and stores these; of the others a read may show anything, and a write stores all or none.
What "accessible" says, and that the bits are a parameter, is the model's reading (notes/assumptions/56.md, DEDUCED). -/
def Obligations.IntegrationAndAuxiliaryControl : Prop :=
  (∀ (s : State) (d : Word) (ad : AddrDesc), PlainStorage s → Unlocked s →
    (s.cfg.has.editctrl = true →
      exec (.rdEditctrl ad) s = reads s (0#31 ++ BitVec.ofBool (s.ctl.editctrl.getLsbD 0)) ∧
      (s.softLock ad = false → ∃ w,
        exec (.wrEditctrl d ad) s = .next { s with ctl := { s.ctl with editctrl := w }, response := .okWrite } ∧
        WritesWord (fun k => decide (k = 0)) d s.ctl.editctrl w) ∧
      (s.softLock ad = true → exec (.wrEditctrl d ad) s = accepts s)) ∧
    (s.cfg.has.edacr = true →
      exec (.rdEdacr ad) s = reads s s.ctl.edacr ∧
      (s.softLock ad = false →
        exec (.wrEdacr d ad) s = .next { s with ctl := { s.ctl with edacr := d }, response := .okWrite }) ∧
      (s.softLock ad = true → exec (.wrEdacr d ad) s = accepts s))) ∧
  ∀ (s : State) (d : Word) (ad : AddrDesc),
    let preserved := s.cfg.has.edacrPreserved
    s.cfg.has.edacr = true → s.cfg.dbg.doPD = false → preserved ≠ 0 → ad.memoryMapped = false →
    s.osLock = true ∨ s.powered = false →
    (∃ v, exec (.rdEdacr ad) s = reads s v ∧
      ∀ k, preserved.getLsbD k = true → v.getLsbD k = s.ctl.edacr.getLsbD k) ∧
    (∃ w, exec (.wrEdacr d ad) s = .next { s with ctl := { s.ctl with edacr := w }, response := .okWrite } ∧
      (∀ k, preserved.getLsbD k = true → w.getLsbD k = d.getLsbD k) ∧
      (w = d ∨ ∀ k, preserved.getLsbD k = false → w.getLsbD k = s.ctl.edacr.getLsbD k))

/-! ## Power, reset and status -/

/-- 46_ed_power_reset.md R621 to R627, R630, R631: COREPURQ exists without FEAT_DoPD, CWRR reads 0 and requests a Warm
reset, CORENPDRQ is out of reach where `npd_unknown` holds. That the request is remembered until a Warm reset happens is
the model's reading (`warmResetRequest`, notes/assumptions/28.md, DEDUCED). The authentication that CWRR asks for may be
that of before a change (20_memory.md R162, notes/assumptions/32.md). -/
def Obligations.PowerControl : Prop :=
  ∀ (s : State) (d : Word) (ad : AddrDesc), PlainStorage s →
    let off := s.cfg.dbg.doPD = false ∧ (s.powered = false ∨ s.doubleLock = true)
    let npdUnknown := s.osLock = true ∨ off
    let admits := fun (a : Auth) =>
      ¬(s.cfg.sys.rme = true ∨ s.osLock = true ∨ s.softLock ad = true ∨ off) ∧
        (if s.cfg.pe.secureImpl then a.secureInvasive else a.invasive) = true
    let asks := d.getLsbD 1 = true ∧ s.cfg.opt.cwrrExtent ≠ .ignored
    (Reachable s → ∃ v, exec (.rdEdprcr ad) s = reads s v ∧
      (∀ k, k < 32 → k ≠ 0 → v.getLsbD k = (decide (k = 3) && !s.cfg.dbg.doPD && s.ctl.edprcr.getLsbD 3)) ∧
      (¬npdUnknown → v.getLsbD 0 = s.ctl.edprcr.getLsbD 0)) ∧
    (Reachable s → s.softLock ad = false → ∃ w request,
      exec (.wrEdprcr d ad) s =
        .next { s with
          ctl := { s.ctl with edprcr := w }
          power := { s.power with warmResetRequest := request }
          response := .okWrite } ∧
      WritesWord (fun k => (decide (k = 3) && !s.cfg.dbg.doPD) || (decide (k = 0) && decide (¬npdUnknown)))
        d s.ctl.edprcr w ∧
      SomeAuth s (fun a => request = true ↔ s.power.warmResetRequest = true ∨ (asks ∧ admits a))) ∧
    (Reachable s → s.softLock ad = true → exec (.wrEdprcr d ad) s = accepts s) ∧
    (¬Reachable s → exec (.rdEdprcr ad) s = errors s ∧ exec (.wrEdprcr d ad) s = errors s)

/-- 46_ed_power_reset.md R640 to R662: a read of EDPRSR with the Core powered, no OS Double Lock and no reset in the way
returns the status and clears the sticky bits; a memory-mapped read under the Software Lock returns the same and clears
nothing (the spec's decision D32); in reset state SR stays; with the Core off nothing is cleared and SPD reads 0. The
access-disable bits with FEAT_RME are MDCR_EL3's; those without EL3, and ETAD, which reports Non-secure accesses whether
FEAT_Debugv8p4 is implemented or not (R645), are notes/assumptions/39.md (DEDUCED); what the locks leave open in reset state
and with the Core off is notes/assumptions/25.md (DEDUCED). R644, R650: a Non-secure trace access, and a PMU access of any
Security state (notes/assumptions/48.md), refused by their functions, set STAD and SPMAD. -/
def Obligations.PowerStatusRead : Prop :=
  ∀ (s : State) (ad : AddrDesc),
    let c := s.cfg
    let m := s.env.mdcr3
    let trace := c.sys.trcExt && c.sys.trbe
    let hiddenByOsl := s.lock.oslk = true ∧ c.dbg.debugv8p4 = false
    let hiddenByOslX := hiddenByOsl ∧ c.dbg.debugv8p2 = false ∧ c.opt.oslarErrorWhenDisallowed = false
    let disabled := fun (control : Bool) (f : SecState → Bool) (ss : SecState) =>
      if c.sys.rme && c.pe.haveEL3 then control else !f ss
    let reported := if c.sys.rme || c.dbg.debugv8p4 then SecState.nonSecure else ad.ss
    let shown := fun (v : Word) =>
      v.getLsbD 0 = true ∧ v.getLsbD 1 = s.sticky.spd ∧ v.getLsbD 2 = false ∧ v.getLsbD 3 = s.sticky.sr ∧
      v.getLsbD 4 = s.hal.halted ∧ v.getLsbD 5 = s.lock.oslk ∧ v.getLsbD 6 = false ∧
      (c.sys.rme = true ∨ ¬hiddenByOslX → v.getLsbD 7 = disabled m.edad s.allowDebugFor reported) ∧
      (¬hiddenByOslX → v.getLsbD 8 = s.sticky.sdad) ∧
      (c.sys.pmuv3Ext = true → c.sys.rme = true ∨ ¬hiddenByOsl → v.getLsbD 9 = disabled m.epmad s.allowPMUFor reported) ∧
      (c.sys.pmuv3Ext = false → c.sys.pmuv3 = false → v.getLsbD 9 = false) ∧
      (c.sys.pmuv3Ext = false ∨ ¬hiddenByOsl → v.getLsbD 10 = (c.sys.pmuv3Ext && s.sticky.spmad)) ∧
      v.getLsbD 11 = s.sticky.sdr ∧ v.getLsbD 12 = (trace && disabled m.etad s.allowTraceFor .nonSecure) ∧
      v.getLsbD 13 = (trace && s.sticky.stad) ∧ v.getLsbD 14 = (c.sys.rme && m.edade) ∧
      v.getLsbD 15 = (c.sys.rme && trace && m.etade) ∧ v.getLsbD 16 = (c.sys.rme && c.sys.pmuv3Ext && m.epmade) ∧
      ∀ k, 17 ≤ k → k < 32 → v.getLsbD k = false
    let cleared : StickyBits := { stad := false, sdr := false, spmad := false, sdad := false, sr := false, spd := false }
    (s.power.core = .powered → s.doubleLock = false → s.power.inReset = false → s.softLock ad = false →
      ∃ v, exec (.rdEdprsr ad) s = .next { s with sticky := cleared, response := .okRead v } ∧ shown v) ∧
    (s.power.core = .powered → s.doubleLock = false → s.power.inReset = false → s.softLock ad = true →
      ∃ v, exec (.rdEdprsr ad) s = reads s v ∧ shown v) ∧
    (s.power.core = .powered → s.cfg.dbg.doubleLock = false → s.power.inReset = true → s.softLock ad = false →
      ∃ v, exec (.rdEdprsr ad) s =
        .next { s with sticky := { cleared with sr := s.sticky.sr }, response := .okRead v } ∧ v.getLsbD 2 = true) ∧
    (Reachable s → s.powered = false → ∃ v, exec (.rdEdprsr ad) s = reads s v ∧ v.getLsbD 1 = false) ∧
    (¬Reachable s → exec (.rdEdprsr ad) s = errors s) ∧
    (s.powered = true → trace = true → ad.ss = .nonSecure → s.allowTraceFor ad.ss = false →
      agentStep (.extTraceAccessFailed ad) s = { s with sticky := { s.sticky with stad := true } }) ∧
    ((trace = false ∨ ad.ss ≠ .nonSecure ∨ s.allowTraceFor ad.ss = true) →
      agentStep (.extTraceAccessFailed ad) s = s) ∧
    (s.powered = true → c.sys.pmuv3Ext = true → s.allowPMUFor ad.ss = false →
      agentStep (.extPmuAccessFailed ad) s = { s with sticky := { s.sticky with spmad := true } }) ∧
    ((c.sys.pmuv3Ext = false ∨ s.allowPMUFor ad.ss = true) → agentStep (.extPmuAccessFailed ad) s = s)

/-- 45_ed_lock_pcsr_pfr_pidr.md R567 to R571, 42 R378, 47 R754 to R757: a read of EDPCSR[31:0] completes wherever its
ladder gives no ERROR. A fresh sample is returned and the rest of it captured, in the first format, or in the second where
EDSCR.SC2 is 1; the first read since the PE left reset state may return 0xFFFFFFFF in its place. In Debug state or where
sampling is prohibited the read returns 0xFFFFFFFF, in reset state or without a fresh sample an UNKNOWN value, and it leaves
EDPCSR[63:32], EDCIDSR and EDVIDSR UNKNOWN. Under the Software Lock it returns the same and leaves these three unchanged in
every case. The two hidden flags, which every such read clears, and that any earlier Context ID may be captured until a
context synchronization event, are the spec's decision D31 and the model's choice (notes/assumptions/26.md); NS for Realm and
Root state is the model's reading (notes/assumptions/46.md). -/
def Obligations.PcSample : Prop :=
  ∀ (s : State) (ad : AddrDesc), s.cfg.hasPcsr = true →
    let p := s.pe
    let c := s.cfg
    let lo := s.sampleAddr.extractLsb' 0 32
    let hi := s.sampleAddr.extractLsb' 32 32
    let prohibited := s.hal.halted = true ∨ s.env.pcSampleProhibited = true
    let live := ¬prohibited ∧ s.power.inReset = false ∧ s.smp.fresh = true
    let contextID := fun (r : ContextIds) =>
      if p.el1AA64 then r.el1
      else if c.pe.haveEL3 ∧ p.el3AA64 = false ∧ p.ss = .secure then r.aa32Secure
      else r.aa32NonSecure
    let ns := decide (p.ss = .nonSecure ∨ p.ss = .realm)
    let vmid : BitVec 16 :=
      if c.pe.haveEL2 = false ∨ p.ss = .secure ∨ p.el = 2 then 0
      else if p.el2AA64 then
        (if c.sys.vmid16 = true ∧ p.vtcrVS = true then p.vmid else 0#8 ++ p.vmid.extractLsb' 0 8)
      else 0#8 ++ p.vmid32
    let captured := fun (q : SampleRegs) =>
      (∃ r ∈ p.context :: s.earlierContexts, q.cidsr = contextID r) ∧
      (s.sc2 = false →
        q.pcsrHi = hi ∧ q.vidsr.getLsbD 31 = ns ∧ q.vidsr.getLsbD 30 = (c.pe.haveEL2 && decide (p.el = 2)) ∧
        q.vidsr.getLsbD 29 = (c.pe.haveEL3 && c.dbg.aa64 && decide (p.el = 3) && p.el3AA64) ∧
        (hi ≠ 0 → q.vidsr.getLsbD 28 = true) ∧ q.vidsr.extractLsb' 16 12 = 0 ∧ q.vidsr.extractLsb' 0 16 = vmid) ∧
      (s.sc2 = true →
        q.pcsrHi = BitVec.ofBool ns ++ p.el ++ 0#5 ++ s.sampleAddr.extractLsb' 32 24 ∧
        (p.el ≠ 3 → p.el2AA64 = true → p.el2Enabled = true → q.vidsr = p.contextEL2))
    let returns := fun (v : Word) (P : SampleRegs → Prop) => ∃ q : SampleRegs,
      exec (.rdEdpcsrLo ad) s = .next { s with smp := q, response := .okRead v } ∧ q.fresh = false ∧ q.first = false ∧ P q
    let unknown := fun (_ : SampleRegs) => True
    (¬Unlocked s → exec (.rdEdpcsrLo ad) s = errors s) ∧
    (Unlocked s → s.softLock ad = false → live → s.smp.first = false → returns lo captured) ∧
    (Unlocked s → s.softLock ad = false → live → s.smp.first = true →
      returns lo captured ∨ returns 0xFFFFFFFF unknown) ∧
    (Unlocked s → s.softLock ad = false → prohibited → returns 0xFFFFFFFF unknown) ∧
    (Unlocked s → s.softLock ad = false → ¬prohibited → (s.power.inReset = true ∨ s.smp.fresh = false) →
      ∃ v, returns v unknown) ∧
    (Unlocked s → s.softLock ad = true → ∃ v,
      exec (.rdEdpcsrLo ad) s =
        .next { s with smp := { s.smp with fresh := false, first := false }, response := .okRead v } ∧
      (prohibited → v = 0xFFFFFFFF) ∧ (live → v = lo ∨ (s.smp.first = true ∧ v = 0xFFFFFFFF)))

/-- 42_ed_id_aux.md R379, R380, 45 R572, R573, 47 R759: the captured words are read without side effect and writes are
ignored. 45 R571: an instruction retired after a branch, in Non-debug state where sampling is allowed, is the sample to
come. 20_memory.md R162: a context synchronization event ends what is remembered of earlier values (the model's own lists,
notes/assumptions/26.md, 32.md, 52.md); with no change by the debugger remembered, the PE sees the controls as they are
(70_reset_and_hazards.md R888). -/
def Obligations.SampleRegisters : Prop :=
  ∀ (s : State) (d : Word) (ad : AddrDesc) (addr : Dword),
    (s.cfg.hasPcsr = true →
      LockedRead (.rdEdpcsrHi ad) s s.smp.pcsrHi ∧ LockedRead (.rdEdcidsr ad) s s.smp.cidsr ∧
      (Unlocked s →
        exec (.wrEdpcsrLo d ad) s = accepts s ∧ exec (.wrEdpcsrHi d ad) s = accepts s ∧
        exec (.wrEdcidsr d ad) s = accepts s) ∧
      (¬Unlocked s →
        exec (.wrEdpcsrLo d ad) s = errors s ∧ exec (.wrEdpcsrHi d ad) s = errors s ∧
        exec (.wrEdcidsr d ad) s = errors s)) ∧
    (s.cfg.hasVidsr = true →
      LockedRead (.rdEdvidsr ad) s s.smp.vidsr ∧ (Unlocked s → exec (.wrEdvidsr d ad) s = accepts s) ∧
      (¬Unlocked s → exec (.wrEdvidsr d ad) s = errors s)) ∧
    (Executes s → s.hal.halted = false → s.env.pcSampleProhibited = false →
      agentStep (.branchRetired addr) s = { s with sampleAddr := addr, smp := { s.smp with fresh := true } }) ∧
    ((s.hal.halted = true ∨ s.env.pcSampleProhibited = true) → agentStep (.branchRetired addr) s = s) ∧
    (s.power.core = .powered → s.power.inReset = false →
      agentStep .contextSync s = { s with earlierAuth := [], earlierContexts := [], lateControls := [] }) ∧
    (s.lateControls = [] → s.seen = s)

/-- 42_ed_id_aux.md R381: a register that is not present reads 0 and discards writes while no lock is in the way, and
does that or returns ERROR otherwise. 30_encoding.md R190: so do the reserved high control words and the OPTIONAL registers
that are not implemented, whatever the locks where the implementation answers RES0; the access changes nothing. Both are
the spec's own decisions (notes/assumptions/17.md). -/
def Obligations.AbsentRegisters : Prop :=
  ∀ (s : State) (n : Index) (d : Word) (ad : AddrDesc),
    let notPresent := fun (rs ws : List Instr) => Res0Or (Unlocked s) [errors s] rs ws s
    let reserved := fun (rs ws : List Instr) =>
      Res0Or (s.cfg.opt.reservedMayError = false ∨ Permitted s ad) [errors s] rs ws s
    (s.cfg.hasPcsr = false →
      notPresent [.rdEdpcsrLo ad, .rdEdpcsrHi ad, .rdEdcidsr ad] [.wrEdpcsrLo d ad, .wrEdpcsrHi d ad, .wrEdcidsr d ad]) ∧
    (s.cfg.hasVidsr = false → notPresent [.rdEdvidsr ad] [.wrEdvidsr d ad]) ∧
    (s.cfg.dbg.edhsr = false → notPresent [.rdEdhsrLo ad, .rdEdhsrHi ad] [.wrEdhsrLo d ad, .wrEdhsrHi d ad]) ∧
    (s.cfg.hasScr2 = false → notPresent [.rdEdscr2 ad] [.wrEdscr2 d ad]) ∧
    (s.cfg.dbg.debugv8p9 = false → n.toNat < s.cfg.pe.numBrp → reserved [.rdDbgbcrHi n ad] [.wrDbgbcrHi n d ad]) ∧
    (s.cfg.dbg.debugv8p9 = false → n.toNat < s.cfg.pe.numWrp → reserved [.rdDbgwcrHi n ad] [.wrDbgwcrHi n d ad]) ∧
    (s.cfg.has.edacr = false → reserved [.rdEdacr ad] [.wrEdacr d ad]) ∧
    (s.cfg.has.editctrl = false → reserved [.rdEditctrl ad] [.wrEditctrl d ad]) ∧
    (s.cfg.has.coreSightID = false →
      reserved
        [.rdEddevarch ad, .rdEddevtype ad, .rdEdpidr0 ad, .rdEdpidr1 ad, .rdEdpidr2 ad, .rdEdpidr3 ad, .rdEdpidr4 ad,
          .rdEdcidr0 ad, .rdEdcidr1 ad, .rdEdcidr2 ad, .rdEdcidr3 ad]
        [.wrEddevarch d ad, .wrEddevtype d ad, .wrEdpidr0 d ad, .wrEdpidr1 d ad, .wrEdpidr2 d ad, .wrEdpidr3 d ad,
          .wrEdpidr4 d ad, .wrEdcidr0 d ad, .wrEdcidr1 d ad, .wrEdcidr2 d ad, .wrEdcidr3 d ad])

/-- 47_ed_status_control.md R711, R715, R717, R735, R737, R745: what EDSCR reads: its stored fields (INTdis, unless it holds
a reserved value); in Debug state the view of the PE, in Non-debug state RW all ones, EL 0, and UNKNOWN in ITO, ITE, NS, NSE
and A; SDD as latched, or as the authentication allows, of which a change may show late (20_memory.md R162; the model's
reading, notes/assumptions/32.md). What RW reads for a view in which an Exception level uses AArch64 below one that uses
AArch32, such as EL0 and EL1, is the model's choice (notes/assumptions/33.md, DESIGN CHOICE). -/
def Obligations.StatusControlRead : Prop :=
  ∀ (s : State) (ad : AddrDesc), PlainStorage s →
    let c := s.cfg
    let p := s.pe
    let noSDD := c.pe.haveEL3 = false ∧ c.pe.secureImpl = false ∧ c.sys.rme = false
    let el2On := c.pe.haveEL2 = true ∧ p.el2Enabled = true ∧ p.el2AA64 = true
    ∃ v, LockedRead (.rdEdscr ad) s v ∧
      (∀ k, k < 32 → edscrField c k = true → (k = 22 ∨ k = 23 → ¬IntdisReserved s) →
        v.getLsbD k = s.ctl.edscr.getLsbD k) ∧
      v.extractLsb' 29 2 = s.ctl.edscr.extractLsb' 29 2 ∧ v.extractLsb' 25 3 = s.ctl.edscr.extractLsb' 25 3 ∧
      v.getLsbD 6 = s.ctl.edscr.getLsbD 6 ∧ v.extractLsb' 0 6 = s.ctl.edscr.extractLsb' 0 6 ∧
      (c.sys.rme = true ∨ c.dbg.debugv8p4 = true → v.getLsbD 23 = false) ∧ v.getLsbD 17 = false ∧
      (c.sys.rme = false → v.getLsbD 15 = false) ∧ (noSDD → v.getLsbD 16 = true) ∧
      (s.hal.halted = true →
        v.getLsbD 28 = s.ctl.edscr.getLsbD 28 ∧ v.getLsbD 24 = s.ctl.edscr.getLsbD 24 ∧
        v.getLsbD 18 = decide (p.ss = .nonSecure ∨ p.ss = .realm) ∧
        (c.sys.rme = true → v.getLsbD 15 = decide (p.ss = .realm ∨ p.ss = .root)) ∧
        v.extractLsb' 8 2 = p.el ∧ (¬noSDD → v.getLsbD 16 = s.hal.sdd) ∧
        (c.dbg.aa32 = false ∨ (p.el1AA64 = true ∧ (p.el ≠ 0 ∨ p.el0AA64 = true)) → v.extractLsb' 10 4 = 0b1111#4) ∧
        (c.dbg.aa32 = true → p.el1AA64 = true → p.el = 0 → p.el0AA64 = false → v.extractLsb' 10 4 = 0b1110#4) ∧
        (c.dbg.aa32 = true → p.el1AA64 = false → el2On → v.extractLsb' 11 3 = 0b110#3) ∧
        (c.dbg.aa32 = true → p.el1AA64 = false → ¬el2On → c.pe.haveEL3 = true → p.el3AA64 = true →
          v.extractLsb' 12 2 = 0b10#2) ∧
        (c.dbg.aa32 = true → p.el1AA64 = false → ¬el2On → (c.pe.haveEL3 = false ∨ p.el3AA64 = false) →
          v.getLsbD 13 = false) ∧
        v.getLsbD 7 =
          if p.el2Enabled = true ∧ (p.el = 0 ∨ p.el = 1) ∧ p.hcrTGE = false ∧
              (p.hcrAMO = true ∨ (c.sys.doubleFault2 = true ∧ p.hcrxTMEA = true)) then p.virtualSError
          else if c.sys.e3dse = true ∧ p.el ≠ 3 ∧ p.scrEnDSE = true then p.delegatedSError
          else p.physicalSError) ∧
      (s.hal.halted = false →
        v.extractLsb' 10 4 = 0b1111#4 ∧ v.extractLsb' 8 2 = 0 ∧
        (¬noSDD → SomeAuth s fun a =>
          v.getLsbD 16 = if c.sys.rme then !a.rootInvasive else !a.secureInvasive))

/-- 47_ed_status_control.md R691, R746: a write of EDSCR stores TFO, INTdis, TDA, MA, SC2 and HDE, each where it is a
field, and nothing else. R703, R750, R751: PE software, through MDSCR_EL1 while the OS Lock is set, writes these without
MA, and RXfull, TXfull, RXO, TXU, ERR and, in AArch64 state, the fields of EDSCR2 (10_state.md R49). R709: the PE's
progress sets PipeAdv. What an access to MDSCR_EL1 does while the OS Lock is clear is not in the source: it changes nothing
here (the model's choice, notes/assumptions/49.md). That such a write stores no position that is RES0, under RES0_storage too,
is the model's choice (notes/assumptions/10.md). The bits that the PE has written it sees as written (20_memory.md R161;
notes/assumptions/52.md). R711, 60_exceptions.md R808: INTdis masks the interrupts of its variant and no others; that taking
one is a step of the PE is the model's own framing (notes/assumptions/49.md). What the PE consults is as the PE sees it (70
R888; `seen`, notes/assumptions/52.md). -/
def Obligations.StatusControlWrite : Prop :=
  ∀ (s : State) (d : Word) (ad : AddrDesc) (ehbwe tta : Bool) (p : PeView),
    let seen := s.seen.ctl.edscr
    let written := fun k => (edscrField s.cfg k && decide (k ≠ 20)) || [6, 26, 27, 29, 30].contains k
    let masked := fun (a : Auth) => intdisMasks s.cfg a (seen.getLsbD 23) (seen.getLsbD 22) p.ss p.el
    (PlainStorage s → ∃ w, LockedWrite (.wrEdscr d ad) s { s with ctl := { s.ctl with edscr := w } } ∧
      WritesWord (edscrField s.cfg) d s.ctl.edscr w) ∧
    (Executes s → s.seen.lock.oslk = true → ∃ w w2 m m2,
      Settling s (fun r => bitsOf .edscr m r ||| bitsOf .edscr2 m2 r)
        (fun s t => t = { s with ctl := { s.ctl with edscr := w, edscr2 := w2 } }) (agentStep (.writeMdscr d ehbwe tta) s) ∧
      WritesWord written d s.ctl.edscr w ∧
      (∀ k, k < 32 → w2.getLsbD k =
        if s.usingAA64 && edscr2Field s.cfg k then (if k = 3 then ehbwe else tta) else s.ctl.edscr2.getLsbD k) ∧
      ∀ k, k < 64 → m.getLsbD k = (decide (k < 32) && written k) ∧
        m2.getLsbD k = (decide (k < 32) && s.usingAA64 && edscr2Field s.cfg k)) ∧
    (s.seen.lock.oslk = false → agentStep (.writeMdscr d ehbwe tta) s = s) ∧
    (Executes s → s.hal.halted = false →
      agentStep .pipeAdvance s = { s with ctl := { s.ctl with edscr := s.ctl.edscr ||| 0x02000000 } }) ∧
    (s.hal.halted = true → agentStep .pipeAdvance s = s ∧ agentStep (.takeInterrupt p) s = s) ∧
    (s.earlierAuth = [] → ¬IntdisReserved s.seen → masked s.auth = true → agentStep (.takeInterrupt p) s = s) ∧
    (Executes s → s.hal.halted = false → LegalView s.cfg p → s.earlierAuth = [] → ¬IntdisReserved s.seen →
      masked s.auth = false →
      agentStep (.takeInterrupt p) s =
        { s with
          pe := p
          earlierContexts :=
            if p.context = s.pe.context then s.earlierContexts else s.pe.context :: s.earlierContexts })

/-- 47_ed_status_control.md R749, R752: EDSCR2, where it is present, shows and stores EHBWE and TTA, whatever the Software
Lock. -/
def Obligations.StatusControl2 : Prop :=
  ∀ (s : State) (d : Word) (ad : AddrDesc), PlainStorage s → s.cfg.dbg.debugv8p9 = true ∨ s.cfg.sys.trbeExt = true →
    (∃ v, LockedRead (.rdEdscr2 ad) s v ∧ ShowsFields (edscr2Field s.cfg) s.ctl.edscr2 v) ∧
    (Unlocked s → ∃ w,
      exec (.wrEdscr2 d ad) s = .next { s with ctl := { s.ctl with edscr2 := w }, response := .okWrite } ∧
      WritesWord (edscr2Field s.cfg) d s.ctl.edscr2 w) ∧
    (¬Unlocked s → exec (.wrEdscr2 d ad) s = errors s)

/-! ## Debug state -/

/-- 60_exceptions.md R805, R810, 47_ed_status_control.md R717, R740, 44 R512 to R519, R522: taking a Halting debug event:
Halted, its code in STATUS, ITO and MA 0, ITE 1, its pending bit cleared, SDD latched; a watchpoint's address and syndrome
are recorded; the rest of EDSCR, and everything outside EDSCR, EDESR and the halting registers, stays (the sample is no
longer fresh). ITE 1 is the spec's decision D27 (notes/assumptions/23.md), and which events are enabled is the model's
choice (`eventEnabled`, notes/assumptions/30.md), of the controls as the PE sees them (70 R888; `seen`,
notes/assumptions/52.md). MA is 0 for the PE too, whatever the debugger wrote in Non-debug state (47 R713). -/
def Obligations.EnteringDebugState : Prop :=
  ∀ (s : State) (r : HaltReason), s.power.core = .powered → s.power.inReset = false → s.hal.halted = false →
    s.env.haltingAllowed = true → (¬ResetCatchFirst s ∨ r = .resetCatch) → s.seen.eventEnabled r = true → ∃ w e p h,
    Settling s (bitsOf .edscr 0x100000)
      (fun s t => t = { s with ctl := { s.ctl with edscr := w, edesr := e }, smp := p, hal := h })
      (agentStep (.enterDebug r) s) ∧
    (agentStep (.enterDebug r) s).seen.ctl.edscr.getLsbD 20 = false ∧
    h.halted = true ∧ w.extractLsb' 0 6 = r.status ∧ w.getLsbD 28 = false ∧ w.getLsbD 20 = false ∧
    w.getLsbD 24 = true ∧
    (∀ k, 6 ≤ k → k < 32 → k ≠ 28 → k ≠ 20 → k ≠ 24 → w.getLsbD k = s.ctl.edscr.getLsbD k) ∧
    (∀ k, k < 32 → e.getLsbD k =
      (s.ctl.edesr.getLsbD k && !(edesrField s.cfg k && decide (r.pending.map PendingEvent.bit = some k)))) ∧
    p = { s.smp with fresh := false } ∧
    h = { s.hal with
      halted := true, sdd := h.sdd, ssLoose := false, resetCatchDue := false
      edwar := h.edwar, edwarAA32 := h.edwarAA32, edhsr := h.edhsr } ∧
    SomeAuth s (fun a => h.sdd =
      if s.cfg.sys.rme then decide (s.pe.el ≠ 3) && !a.rootInvasive
      else decide (s.pe.ss ≠ .secure) && !a.secureInvasive) ∧
    (∀ n a control, r = .watchpoint n a control →
      let c := s.cfg
      let v8p9 := c.dbg.debugv8p9
      let sveSme := c.sys.sve || c.sys.sme
      h.edwar = a.reported ∧ h.edwarAA32 = a.aa32 ∧
      (c.dbg.edhsr = true →
        h.edhsr.getLsbD 17 = (v8p9 || a.syndrome.getLsbD 17) ∧
        (h.edhsr.getLsbD 17 = true → h.edhsr.extractLsb' 18 6 = n) ∧
        h.edhsr.getLsbD 16 = (sveSme && a.syndrome.getLsbD 16) ∧ h.edhsr.getLsbD 15 = (sveSme && a.syndrome.getLsbD 15) ∧
        h.edhsr.getLsbD 13 = (v8p9 && c.sys.nv2 && a.syndrome.getLsbD 13) ∧
        h.edhsr.getLsbD 10 = (sveSme && a.syndrome.getLsbD 10) ∧
        h.edhsr.getLsbD 8 = (v8p9 && decide (a.kind = .cacheMaintenance)) ∧
        h.edhsr.getLsbD 6 = (v8p9 &&
          match a.kind with
          | .load => false
          | .store => true
          | .atomic => !(s.seen.wcr n).getLsbD 3
          | .cacheMaintenance => true) ∧
        h.edhsr.getLsbD 40 = (c.dbg.gcs && v8p9 && a.syndrome.getLsbD 40) ∧
        ∀ k, k < 64 → ¬(15 ≤ k ∧ k ≤ 23) → k ≠ 40 → k ≠ 13 → k ≠ 10 → k ≠ 8 → k ≠ 6 → h.edhsr.getLsbD k = false))

/-- 60_exceptions.md R811, R812: a restart request puts 0b000001 in STATUS; leaving Debug state clears Halted, puts
0b000010 in STATUS and sets EDPRSR.SDR; EDWAR and EDHSR become UNKNOWN. With no operation outstanding nothing else changes.
44_ed_event_control.md R536, 41 R306: an operation that has not completed (EDSCR.ITE 0) may complete or be abandoned, which
may leave DTRRX, DTRTX and RXfull, TXfull, RXO, TXU, ITO, ITE and ERR at any value, and nothing else: how much it leaves open
is the model's choice (notes/assumptions/24.md, DESIGN CHOICE). Without a restart request there is no exit (the model's way
with a step that is not enabled, notes/assumptions/29.md). -/
def Obligations.LeavingDebugState : Prop :=
  ∀ (s : State), s.power.core = .powered → s.power.inReset = false → s.hal.halted = true →
    let exits := fun (rx tx : Word) (free : List Nat) => ∃ w addr syndrome,
      agentStep .exitDebug s =
        { s with
          dcc := { s.dcc with dtrrx := rx, dtrtx := tx }
          ctl := { s.ctl with edscr := w }
          hal := { s.hal with halted := false, edwar := addr, edhsr := syndrome, edwarAA32 := false }
          sticky := { s.sticky with sdr := true } } ∧
      w.extractLsb' 0 6 = 0b000010#6 ∧
      ∀ k, 6 ≤ k → k < 32 → k ∉ free → w.getLsbD k = s.ctl.edscr.getLsbD k
    (∃ w, agentStep .restartRequest s = { s with ctl := { s.ctl with edscr := w } } ∧
      w.extractLsb' 0 6 = 0b000001#6 ∧ ∀ k, 6 ≤ k → k < 32 → w.getLsbD k = s.ctl.edscr.getLsbD k) ∧
    (s.ctl.edscr.extractLsb' 0 6 = 0b000001#6 → s.ctl.edscr.getLsbD 24 = true → exits s.dcc.dtrrx s.dcc.dtrtx []) ∧
    (s.ctl.edscr.extractLsb' 0 6 = 0b000001#6 → s.ctl.edscr.getLsbD 24 = false →
      ∃ rx tx, exits rx tx [6, 24, 26, 27, 28, 29, 30]) ∧
    (s.ctl.edscr.extractLsb' 0 6 ≠ 0b000001#6 → agentStep .exitDebug s = s)

/-- 44_ed_event_control.md R503: a pending event that is implemented is taken while halting is allowed: the PE halts and
its bit is cleared. An event that the PE generates while halting is not allowed is made pending: a Halting step while
EDECR.SS is 1, and with FEAT_Debugv8p8 an Exception Catch that EDECCR enables; while halting is allowed none is. These two
steps are the spec's own framing, D25, and the model's choice (notes/assumptions/30.md), as is that a step which is not
enabled does nothing (notes/assumptions/29.md), that a Reset Catch comes first (notes/assumptions/47.md), and that the PE
sees EDECR and EDECCR as in `seen` (70 R888, notes/assumptions/52.md). -/
def Obligations.PendingEvents : Prop :=
  ∀ (s : State) (f : PendingEvent) (k : StepKind) (el : BitVec 2) (ss : SecState) (kind : CatchKind),
    s.power.core = .powered → s.power.inReset = false →
    (s.hal.halted = false → s.env.haltingAllowed = true → edesrField s.cfg f.bit = true →
      s.ctl.edesr.getLsbD f.bit = true → (¬ResetCatchFirst s ∨ f = .rc) →
      (agentStep (.takePending f k) s).hal.halted = true ∧
        (agentStep (.takePending f k) s).ctl.edesr = s.ctl.edesr &&& ~~~(1#32 <<< f.bit)) ∧
    (s.ctl.edesr.getLsbD f.bit = false → agentStep (.takePending f k) s = s) ∧
    (s.hal.halted = false → s.env.haltingAllowed = false →
      (s.seen.ctl.edecr.getLsbD 2 = true →
        agentStep (.eventPending (.haltingStep k)) s = { s with ctl := { s.ctl with edesr := s.ctl.edesr ||| 4 } }) ∧
      (s.cfg.dbg.debugv8p8 = true → catchEnabled s.cfg s.seen.ctl.edeccr el ss kind = true →
        agentStep (.eventPending (.exceptionCatch el ss kind)) s =
          { s with ctl := { s.ctl with edesr := s.ctl.edesr ||| 8 } }) ∧
      (s.cfg.dbg.debugv8p8 = false ∨ catchEnabled s.cfg s.seen.ctl.edeccr el ss kind = false →
        agentStep (.eventPending (.exceptionCatch el ss kind)) s = s)) ∧
    (s.hal.halted = false → s.env.haltingAllowed = true → ∀ r, agentStep (.eventPending r) s = s)

/-- 41_dbg_claim_dcc_watchpoint.md R314, 44_ed_event_control.md R534, R538: the PE's side of the DCC and of the ITR: taking a
full DTRRX clears RXfull, filling an empty DTRTX sets TXfull, executing the ITR word, read in the format of the PE's
Execution state, sets ITE and has the effect the PE gives it, only where an accepted word waits in ITR (20_memory.md R172).
This is a reading of the spec's own (D22 for the DCC, as R314 says, D27 for the ITR), and the model's choice
(notes/assumptions/40.md); it sees MA as in `seen` (70 R888, notes/assumptions/52.md). 41 R304, R306, 70_reset_and_hazards.md
R884: while ITE is 0 for an operation of Memory access mode, the PE goes on with its load or store and leaves DTRRX, DTRTX and
the flags at any value (the model's choice, notes/assumptions/21.md). 10_state.md R49: what PE software stores through the
System register views of the CLAIM tags, EDECCR and EDPRCR. -/
def Obligations.PeSideOfTheChannel : Prop :=
  ∀ (s : State) (v : Word) (e : ItrEffect) (x : Dword), Executes s →
    (s.ctl.edscr.getLsbD 30 = true →
      agentStep .takeRx s = { s with ctl := { s.ctl with edscr := s.ctl.edscr &&& ~~~0x40000000 } }) ∧
    (s.ctl.edscr.getLsbD 30 = false → agentStep .takeRx s = s) ∧
    (s.ctl.edscr.getLsbD 29 = false →
      agentStep (.putTx v) s =
        { s with
          dcc := { s.dcc with dtrtx := v }
          ctl := { s.ctl with edscr := s.ctl.edscr ||| 0x20000000 } }) ∧
    (s.ctl.edscr.getLsbD 29 = true → agentStep (.putTx v) s = s) ∧
    s.itrInstruction =
      (if s.usingAA64 then .a64 s.dcc.itr else .t32 (s.dcc.itr.extractLsb' 0 16) (s.dcc.itr.extractLsb' 16 16)) ∧
    (s.hal.halted = true → s.seen.ctl.edscr.getLsbD 20 = false → s.ctl.edscr.getLsbD 24 = false →
      s.dcc.memoryOp = false → e.instruction = s.itrInstruction → LegalView s.cfg e.pe → ∃ w,
      agentStep (.takeItr e) s =
        { s with
          pe := e.pe
          earlierContexts :=
            if e.pe.context = s.pe.context then s.earlierContexts else s.pe.context :: s.earlierContexts
          env := s.env.withPeOwned e.env
          smp := { s.smp with fresh := s.smp.fresh && !e.env.pcSampleProhibited }
          dcc := { s.dcc with dtrtx := e.putsTx.getD s.dcc.dtrtx }
          ctl := { s.ctl with edscr := w } } ∧
      w.getLsbD 24 = true ∧ w.getLsbD 30 = (s.ctl.edscr.getLsbD 30 && !e.takesRx) ∧
      w.getLsbD 29 = (s.ctl.edscr.getLsbD 29 || e.putsTx.isSome) ∧
      w.getLsbD 6 = (s.ctl.edscr.getLsbD 6 || e.exception) ∧
      ∀ k, k < 32 → k ≠ 24 → k ≠ 30 → k ≠ 29 → k ≠ 6 → w.getLsbD k = s.ctl.edscr.getLsbD k) ∧
    ((e.instruction ≠ s.itrInstruction ∨ s.ctl.edscr.getLsbD 24 = true ∨ s.dcc.memoryOp = true) →
      agentStep (.takeItr e) s = s) ∧
    (s.hal.halted = true → s.dcc.memoryOp = true → s.ctl.edscr.getLsbD 24 = false → LegalView s.cfg e.pe → ∃ w rx tx,
      agentStep (.memoryAccess e.pe e.env) s =
        { s with
          pe := e.pe
          earlierContexts :=
            if e.pe.context = s.pe.context then s.earlierContexts else s.pe.context :: s.earlierContexts
          env := s.env.withPeOwned e.env
          smp := { s.smp with fresh := s.smp.fresh && !e.env.pcSampleProhibited }
          dcc := { s.dcc with dtrrx := rx, dtrtx := tx }
          ctl := { s.ctl with edscr := w } } ∧
      ∀ k, k < 32 → k ∉ [6, 24, 26, 27, 28, 29, 30] → w.getLsbD k = s.ctl.edscr.getLsbD k) ∧
    ((s.hal.halted = false ∨ s.dcc.memoryOp = false ∨ s.ctl.edscr.getLsbD 24 = true) →
      agentStep (.memoryAccess e.pe e.env) s = s) ∧
    agentStep (.sysWrite .claimSet x) s =
      { s with dcc := { s.dcc with claim := s.dcc.claim ||| x.extractLsb' 0 8 } } ∧
    agentStep (.sysWrite .claimClr x) s =
      { s with dcc := { s.dcc with claim := s.dcc.claim &&& ~~~(x.extractLsb' 0 8) } } ∧
    (PlainStorage s → ∃ w, Settling s (bitsOf .edeccr 0xFFFFFFFF)
        (fun s t => t = { s with ctl := { s.ctl with edeccr := w } }) (agentStep (.sysWrite .oseccr x) s) ∧
      WritesWord (edeccrField s.cfg) (x.extractLsb' 0 32) s.ctl.edeccr w) ∧
    (∃ w, agentStep (.sysWrite .dbgprcr x) s = { s with ctl := { s.ctl with edprcr := w } } ∧
      WritesWord (fun k => decide (k = 0)) (x.extractLsb' 0 32) s.ctl.edprcr w)

/-! ## Resets and power -/

/-- 70_reset_and_hazards.md R862: what a Warm reset changes, and that it changes nothing else. In Debug state the PE leaves
it: Halted is cleared and STATUS becomes 0b000010. The model's own notes follow: whether the OS Double Lock was locked at the
entry to reset state, at this reset too where the PE was in that state (notes/assumptions/25.md, DEDUCED), and no change by
the debugger that the PE sees late (notes/assumptions/52.md, DEDUCED). -/
def Obligations.WarmReset : Prop :=
  ∀ (s : State), ∃ w e addr aa32 syndrome b,
    agentStep .warmReset s =
      { s with
        ctl := { s.ctl with edscr := w, edesr := e }
        smp := { s.smp with fresh := false, first := false }
        hal :=
          { s.hal with
            halted := false, edwar := addr, edwarAA32 := aa32, edhsr := syndrome, resetCatchDue := false }
        sticky := { s.sticky with sdr := b, sr := true }
        power :=
          { s.power with
            inReset := true
            resetWithDoubleLock := (s.power.inReset && s.power.resetWithDoubleLock) || s.doubleLock
            warmResetRequest := false }
        lateControls := [] } ∧
    (∀ k, 6 ≤ k → k < 32 → k ≠ 25 → w.getLsbD k = s.ctl.edscr.getLsbD k) ∧
    (s.hal.halted = true → w.extractLsb' 0 6 = 0b000010#6) ∧
    (s.hal.halted = false →
      w.extractLsb' 0 6 = s.ctl.edscr.extractLsb' 0 6 ∧ addr = s.hal.edwar ∧ aa32 = s.hal.edwarAA32) ∧
    e.extractLsb' 4 28 = s.ctl.edesr.extractLsb' 4 28 ∧ e.getLsbD 0 = false ∧
    e.getLsbD 1 = (if s.cfg.dbg.doPD then s.env.ctiRCE else s.ctl.edecr.getLsbD 1) ∧
    e.getLsbD 2 = (if s.cfg.dbg.doPD then s.ctl.edesr.getLsbD 2 else s.ctl.edecr.getLsbD 2) ∧
    e.getLsbD 3 = (s.ctl.edesr.getLsbD 3 && !s.cfg.dbg.debugv8p8)

/-- 70_reset_and_hazards.md R861, R866: what a Cold reset leaves in the fields whose reset value the spec gives, and what
it leaves alone, the reserved bits of the breakpoint and watchpoint registers among it ("stored fields only"). That the Warm
entries follow (SR 1, EDESR, the sample flags) is the spec's decision D30; the values of the imprecise-entry flag, of the
sample flags and of the OS Lock are its decision D36 and the model's choice (notes/assumptions/16.md); that no change by the
debugger is left for the PE to see late is the model's reading (notes/assumptions/52.md). -/
def Obligations.ColdReset : Prop :=
  ∀ (s : State),
    let t := agentStep .coldReset s
    t.dcc.claim = 0 ∧ t.hal.halted = false ∧ t.hal.imprecise = false ∧ t.power.inReset = true ∧
    t.power.core = s.power.core ∧ t.smp.fresh = false ∧ t.smp.first = false ∧
    t.sticky.stad = false ∧ t.sticky.spmad = false ∧ t.sticky.sdad = false ∧ t.sticky.spd = true ∧
    t.sticky.sr = true ∧ t.lock.oslk = s.cfg.opt.oslkColdReset ∧ t.lock.slk = s.lock.slk ∧
    t.ctl.edscr.extractLsb' 0 6 = 0b000010#6 ∧ t.ctl.edscr.getLsbD 6 = false ∧ t.ctl.edscr.extractLsb' 26 2 = 0 ∧
    t.ctl.edscr.extractLsb' 29 2 = 0 ∧ (∀ k, k < 32 → edscrField s.cfg k = true → t.ctl.edscr.getLsbD k = false) ∧
    (∀ k, k < 32 → edeccrField s.cfg k = true → t.ctl.edeccr.getLsbD k = false) ∧
    (∀ k, k < 32 → edscr2Field s.cfg k = true → t.ctl.edscr2.getLsbD k = false) ∧
    (∀ k, k < 32 → edecrCoreField s.cfg k = true → t.ctl.edecr.getLsbD k = false) ∧
    t.ctl.edesr.getLsbD 0 = false ∧
    t.ctl.edesr.getLsbD 1 = (if s.cfg.dbg.doPD then s.env.ctiRCE else s.ctl.edecr.getLsbD 1) ∧
    t.ctl.edesr.getLsbD 2 = (!s.cfg.dbg.doPD && s.ctl.edecr.getLsbD 2) ∧
    t.ctl.edesr.getLsbD 3 = (s.ctl.edesr.getLsbD 3 && !s.cfg.dbg.debugv8p8) ∧
    t.ctl.edesr.extractLsb' 4 28 = s.ctl.edesr.extractLsb' 4 28 ∧
    t.ctl.editctrl = (if s.cfg.has.editctrlDomain = .core then s.ctl.editctrl &&& ~~~1 else s.ctl.editctrl) ∧
    (s.cfg.has.edacr = true → s.cfg.has.edacrDomain = .core → t.acrReset = t.ctl.edacr) ∧
    (s.cfg.has.edacr = false ∨ s.cfg.has.edacrDomain = .debug →
      t.ctl.edacr = s.ctl.edacr ∧ t.acrReset = s.acrReset) ∧
    (s.cfg.dbg.doPD = true →
      t.ctl.edecr.getLsbD 2 = false ∧
      t.ctl.edprcr.getLsbD 0 = (s.env.powerupRequest && s.cfg.opt.corenpdrqReset)) ∧
    (s.cfg.dbg.doPD = false →
      (∀ k, k ≤ 2 → t.ctl.edecr.getLsbD k = s.ctl.edecr.getLsbD k) ∧
      t.ctl.edprcr.getLsbD 0 = s.ctl.edprcr.getLsbD 3 ∧ t.ctl.edprcr.getLsbD 3 = s.ctl.edprcr.getLsbD 3) ∧
    (∀ n k, k < 64 →
      ((32 ≤ k ∨ bcrField s.cfg n k = false) → (t.bcr n).getLsbD k = (s.bcr n).getLsbD k) ∧
      ((32 ≤ k ∨ wcrField s.cfg k = false) → (t.wcr n).getLsbD k = (s.wcr n).getLsbD k) ∧
      (k < 2 → (t.wvr n).getLsbD k = (s.wvr n).getLsbD k)) ∧
    t.pe = s.pe ∧ t.auth = s.auth ∧ t.env = s.env ∧ t.cfg = s.cfg ∧ t.sampleAddr = s.sampleAddr ∧ t.lateControls = []

/-- 70_reset_and_hazards.md R863, R864: an External debug reset clears EDECR.{SS, RCE, OSUCE}, COREPURQ and, where they are
in the Debug domain, EDITCTRL.IME and EDACR (its reset value is free), sets an implemented Software Lock, and does nothing
with FEAT_DoPD; leaving reset clears InReset and sets the first-sample flag. The model's own flags follow: a change of SS
in Non-debug state is remembered (notes/assumptions/37.md), a Reset Catch that is pending while halting is allowed is
due (70 R865, notes/assumptions/47.md), and the PE sees the three bits of EDECR as cleared (20_memory.md R161,
notes/assumptions/52.md). Nothing else changes. -/
def Obligations.ExternalDebugResetAndLeavingReset : Prop :=
  ∀ (s : State),
    let acrHere := s.cfg.has.edacr = true ∧ s.cfg.has.edacrDomain = .debug
    (s.cfg.dbg.doPD = true → agentStep .externalDebugReset s = s) ∧
    (s.cfg.dbg.doPD = false → ∃ acr : Word, Settling s (bitsOf .edecr 7)
      (fun s t => t =
        { s with
          ctl :=
            { s.ctl with
              edecr := s.ctl.edecr &&& ~~~7
              edprcr := s.ctl.edprcr &&& ~~~8
              edacr := if acrHere then acr else s.ctl.edacr
              editctrl := if s.cfg.has.editctrlDomain = .debug then s.ctl.editctrl &&& ~~~1 else s.ctl.editctrl }
          hal := { s.hal with ssLoose := s.hal.ssLoose || (!s.hal.halted && s.ctl.edecr.getLsbD 2) }
          lock := { s.lock with slk := s.lock.slk || s.cfg.has.softwareLock }
          acrReset := if acrHere then acr else s.acrReset })
      (agentStep .externalDebugReset s)) ∧
    (s.power.inReset = true →
      agentStep .leaveReset s =
        { s with
          power := { s.power with inReset := false }
          smp := { s.smp with first := true }
          hal := { s.hal with resetCatchDue := s.ctl.edesr.getLsbD 1 && s.env.haltingAllowed } }) ∧
    (s.power.inReset = false → agentStep .leaveReset s = s)

/-- 46_ed_power_reset.md R626, R632, 60_exceptions.md R806, R844: the Core domain is not switched off while COREPURQ or
CORENPDRQ is 1; when it is, from the powered or the retention state, pending Halting debug events are lost, and switching it
on again is a Cold reset. That these requests forbid the step is the spec's derivation in R632 and the model's reading, of
CORENPDRQ too (notes/assumptions/28.md, DEDUCED). The retention state is entered from the powered state and left for it;
leaving it changes at most CORENPDRQ and EDPRSR.SPD, if the implementation resets the one and sets the other there
(notes/assumptions/15.md). That a power-down leaves an External Debug Request pending, and that neither request forbids the
retention state, is the model's choice (notes/assumptions/54.md, DESIGN CHOICE). -/
def Obligations.CorePower : Prop :=
  ∀ (s : State),
    (((s.cfg.dbg.doPD = false ∧ s.ctl.edprcr.getLsbD 3 = true) ∨ s.ctl.edprcr.getLsbD 0 = true) →
      agentStep .powerDownCore s = s) ∧
    (s.power.core = .off → agentStep .powerDownCore s = s) ∧
    (s.power.core ≠ .off → (s.cfg.dbg.doPD = true ∨ s.ctl.edprcr.getLsbD 3 = false) → s.ctl.edprcr.getLsbD 0 = false →
      ∃ e, agentStep .powerDownCore s =
          { s with ctl := { s.ctl with edesr := e }, power := { s.power with core := .off } } ∧
        ∀ k, k < 32 → e.getLsbD k = (s.ctl.edesr.getLsbD k && !edesrField s.cfg k)) ∧
    (s.power.core = .off →
      agentStep .powerUpCore s = agentStep .coldReset { s with power := { s.power with core := .powered } }) ∧
    (s.power.core ≠ .off → agentStep .powerUpCore s = s) ∧
    (s.power.core = .powered →
      agentStep .enterRetention s = { s with power := { s.power with core := .retention } }) ∧
    (s.power.core ≠ .powered → agentStep .enterRetention s = s) ∧
    (s.power.core = .retention → ∃ w,
      agentStep .leaveRetention s =
        { s with
          ctl := { s.ctl with edprcr := w }
          power := { s.power with core := .powered }
          sticky := { s.sticky with spd := s.sticky.spd || s.cfg.opt.spdSetByRetention } } ∧
      (∀ k, k < 32 → k ≠ 0 → w.getLsbD k = s.ctl.edprcr.getLsbD k) ∧
      (s.cfg.opt.corenpdrqRetentionReset = false → w = s.ctl.edprcr) ∧
      (s.cfg.opt.corenpdrqRetentionReset = true → w.getLsbD 0 =
        if s.cfg.dbg.doPD then s.env.powerupRequest && s.cfg.opt.corenpdrqReset else s.ctl.edprcr.getLsbD 3)) ∧
    (s.power.core ≠ .retention → agentStep .leaveRetention s = s)
end

