-- ==== Sys2Proof/Laws/Bits.lean ====
section
/-!
SUPPORT. One lemma for each operation of Machine/Operands.lean that makes or changes a word: what each of its bits is.
-/

namespace Sys2Proof.Machine

theorem setBit_getLsbD {n : Nat} (w : BitVec n) (k : Nat) (b : Bool) (j : Nat) :
    (setBit w k b).getLsbD j = if j = k then (b && decide (k < n)) else w.getLsbD j := by
  have one : (1#n <<< k).getLsbD j = decide (j < n ∧ j = k) := by
    simp only [BitVec.getLsbD_shiftLeft, BitVec.getLsbD_one]
    by_cases h1 : j < n <;> by_cases h2 : j < k <;> by_cases h3 : j = k <;> simp [h1, h2, h3] <;> omega
  have out : ¬j < n → w.getLsbD j = false := fun h => BitVec.getLsbD_of_ge w j (by omega)
  by_cases hjn : j < n <;> by_cases hjk : j = k <;> cases b <;>
    simp only [setBit, if_true, if_false, Bool.false_eq_true, BitVec.getLsbD_or, BitVec.getLsbD_and,
      BitVec.getLsbD_not, one] <;> simp_all

theorem merge_getLsbD {n : Nat} (mask old new : BitVec n) (j : Nat) :
    (merge mask old new).getLsbD j = if mask.getLsbD j then new.getLsbD j else old.getLsbD j := by
  have out : ¬j < n → old.getLsbD j = false := fun h => BitVec.getLsbD_of_ge old j (by omega)
  by_cases hjn : j < n <;> cases h : mask.getLsbD j <;>
    simp only [merge, BitVec.getLsbD_or, BitVec.getLsbD_and, BitVec.getLsbD_not, h] <;> simp_all

theorem merge_self {n : Nat} (mask w : BitVec n) : merge mask w w = w := by
  apply BitVec.eq_of_getLsbD_eq
  intro j _
  simp [merge_getLsbD]

theorem maskIf_getLsbD {n : Nat} (c : Bool) (mask : BitVec n) (j : Nat) :
    (maskIf c mask).getLsbD j = (c && mask.getLsbD j) := by cases c <;> simp [maskIf]

theorem maskAt_getLsbD (lo width j : Nat) :
    (maskAt lo width).getLsbD j = decide (j < 32 ∧ lo ≤ j ∧ j - lo < width) := by
  simp only [maskAt, BitVec.getLsbD_shiftLeft, BitVec.getLsbD_setWidth, BitVec.getLsbD_allOnes]
  by_cases h1 : j < 32 <;> by_cases h2 : j < lo <;> by_cases h3 : j - lo < width <;> simp [h1, h2, h3] <;> omega

theorem bitAt_getLsbD (k : Nat) (b : Bool) (j : Nat) :
    (bitAt k b).getLsbD j = (b && decide (j < 32 ∧ j = k)) := by
  simp only [bitAt, BitVec.getLsbD_shiftLeft, BitVec.getLsbD_setWidth, BitVec.getLsbD_ofBool]
  by_cases h3 : j = k
  · subst h3
    by_cases h1 : j < 32 <;> simp [h1]
  · by_cases h2 : j < k
    · simp [h2, h3]
    · have : j - k ≠ 0 := by omega
      simp [h3, this]

theorem fieldAt_getLsbD {n : Nat} (lo : Nat) (v : BitVec n) (j : Nat) :
    (fieldAt lo v).getLsbD j = (decide (j < 32 ∧ lo ≤ j) && v.getLsbD (j - lo)) := by
  simp only [fieldAt, BitVec.getLsbD_shiftLeft, BitVec.getLsbD_setWidth]
  by_cases h1 : j < 32 <;> by_cases h2 : j < lo
  · simp [h2]
  · have : j - lo < 32 := by omega
    simp [h1, h2, this, Nat.le_of_not_lt h2]
  · simp [h1]
  · simp [h1]

theorem dmask_getLsbD (hi lo j : Nat) (h : hi < 64) : (dmask hi lo).getLsbD j = decide (lo ≤ j ∧ j ≤ hi) := by
  simp only [dmask, BitVec.getLsbD_and, BitVec.getLsbD_ushiftRight, BitVec.getLsbD_shiftLeft, BitVec.getLsbD_allOnes]
  by_cases h1 : j ≤ hi <;> by_cases h2 : lo ≤ j <;> simp [h1, h2] <;> omega

theorem loHalf_getLsbD (v : Dword) (j : Nat) : (loHalf v).getLsbD j = (decide (j < 32) && v.getLsbD j) := by
  simp [loHalf]

theorem hiHalf_getLsbD (v : Dword) (j : Nat) : (hiHalf v).getLsbD j = (decide (j < 32) && v.getLsbD (32 + j)) := by
  simp [hiHalf]

theorem setHalf_getLsbD (hi : Bool) (v : Dword) (d : Word) (j : Nat) (h : j < 64) :
    (setHalf hi v d).getLsbD j =
      if hi = decide (32 ≤ j) then d.getLsbD (j % 32) else v.getLsbD j := by
  have split : ∀ a b : Word, BitVec.getLsbD (w := 32 + 32) (a ++ b) j = if j < 32 then b.getLsbD j else a.getLsbD (j - 32) :=
    fun a b => BitVec.getLsbD_append
  have add : ¬j < 32 → 32 + (j - 32) = j := by omega
  by_cases h1 : j < 32
  · have h2 : ¬32 ≤ j := by omega
    cases hi
    · exact (split _ _).trans (by simp only [h1, h2, Nat.mod_eq_of_lt h1]; rfl)
    · exact (split _ _).trans (by simp only [h1, h2, loHalf_getLsbD]; rfl)
  · have h2 : 32 ≤ j := by omega
    have h3 : j % 32 = j - 32 := by omega
    cases hi
    · exact (split _ _).trans
        (by simp only [h1, h2, hiHalf_getLsbD, show j - 32 < 32 by omega, add h1]; rfl)
    · exact (split _ _).trans (by simp only [h1, h2, h3]; rfl)

theorem readStored_getLsbD {n : Nat} (fields res1 raw : BitVec n) (j : Nat) :
    (readStored false fields res1 raw).getLsbD j =
      if fields.getLsbD j then raw.getLsbD j else res1.getLsbD j := by
  have out : ¬j < n → res1.getLsbD j = false := fun h => BitVec.getLsbD_of_ge res1 j (by omega)
  by_cases hjn : j < n <;> cases h : fields.getLsbD j <;>
    simp only [readStored, if_false, Bool.false_eq_true, BitVec.getLsbD_or, BitVec.getLsbD_and, BitVec.getLsbD_not, h] <;>
    simp_all

theorem writeStored_getLsbD {n : Nat} (fields reserved raw d : BitVec n) (j : Nat) :
    (writeStored false fields reserved raw d).getLsbD j =
      if fields.getLsbD j then d.getLsbD j else raw.getLsbD j := by
  simp [writeStored, merge_getLsbD]

theorem edscrWithStatus_getLsbD (w : Word) (st : BitVec 6) (j : Nat) :
    (edscrWithStatus w st).getLsbD j = if j < 6 then st.getLsbD j else w.getLsbD j := by
  rw [edscrWithStatus, merge_getLsbD, maskAt_getLsbD, fieldAt_getLsbD]
  by_cases h : j < 6
  · have : j < 32 := by omega
    simp [h, this]
  · simp [h]

theorem edesrSet_getLsbD (w : Word) (f : PendingEvent) (b : Bool) (j : Nat) :
    (edesrSet w f b).getLsbD j = if j = f.bit then b else w.getLsbD j := by
  rw [edesrSet, setBit_getLsbD]
  have : f.bit < 32 := by cases f <;> decide
  simp [this]

end Sys2Proof.Machine
end

