-- ==== Sys2Proof/Laws/State.lean ====
section
/-!
SUPPORT. What each update of the state does to each field, true by definition, and the two laws of the register arrays:
a read after a write to the same register gives the value written, and a write leaves every other register alone.
-/

namespace Sys2Proof.Machine

/-! ### okRead -/

@[simp] theorem State.okRead_cfg (s : State) (v : Word) : (s.okRead v).cfg = s.cfg := rfl
@[simp] theorem State.okRead_regs (s : State) (v : Word) : (s.okRead v).regs = s.regs := rfl
@[simp] theorem State.okRead_dcc (s : State) (v : Word) : (s.okRead v).dcc = s.dcc := rfl
@[simp] theorem State.okRead_ctl (s : State) (v : Word) : (s.okRead v).ctl = s.ctl := rfl
@[simp] theorem State.okRead_smp (s : State) (v : Word) : (s.okRead v).smp = s.smp := rfl
@[simp] theorem State.okRead_hal (s : State) (v : Word) : (s.okRead v).hal = s.hal := rfl
@[simp] theorem State.okRead_sticky (s : State) (v : Word) : (s.okRead v).sticky = s.sticky := rfl
@[simp] theorem State.okRead_lock (s : State) (v : Word) : (s.okRead v).lock = s.lock := rfl
@[simp] theorem State.okRead_power (s : State) (v : Word) : (s.okRead v).power = s.power := rfl
@[simp] theorem State.okRead_pe (s : State) (v : Word) : (s.okRead v).pe = s.pe := rfl
@[simp] theorem State.okRead_sampleAddr (s : State) (v : Word) : (s.okRead v).sampleAddr = s.sampleAddr := rfl
@[simp] theorem State.okRead_earlierContexts (s : State) (v : Word) :
    (s.okRead v).earlierContexts = s.earlierContexts := rfl
@[simp] theorem State.okRead_auth (s : State) (v : Word) : (s.okRead v).auth = s.auth := rfl
@[simp] theorem State.okRead_earlierAuth (s : State) (v : Word) : (s.okRead v).earlierAuth = s.earlierAuth := rfl
@[simp] theorem State.okRead_lateControls (s : State) (v : Word) :
    (s.okRead v).lateControls = s.lateControls := rfl
@[simp] theorem State.okRead_env (s : State) (v : Word) : (s.okRead v).env = s.env := rfl
@[simp] theorem State.okRead_acrReset (s : State) (v : Word) : (s.okRead v).acrReset = s.acrReset := rfl
@[simp] theorem State.okRead_response (s : State) (v : Word) : (s.okRead v).response = .okRead v := rfl
@[simp] theorem State.okRead_inputs (s : State) (v : Word) : (s.okRead v).inputs = s.inputs := rfl
@[simp] theorem State.okRead_draws (s : State) (v : Word) : (s.okRead v).draws = s.draws := rfl

/-! ### okWrite -/

@[simp] theorem State.okWrite_cfg (s : State) : (s.okWrite).cfg = s.cfg := rfl
@[simp] theorem State.okWrite_regs (s : State) : (s.okWrite).regs = s.regs := rfl
@[simp] theorem State.okWrite_dcc (s : State) : (s.okWrite).dcc = s.dcc := rfl
@[simp] theorem State.okWrite_ctl (s : State) : (s.okWrite).ctl = s.ctl := rfl
@[simp] theorem State.okWrite_smp (s : State) : (s.okWrite).smp = s.smp := rfl
@[simp] theorem State.okWrite_hal (s : State) : (s.okWrite).hal = s.hal := rfl
@[simp] theorem State.okWrite_sticky (s : State) : (s.okWrite).sticky = s.sticky := rfl
@[simp] theorem State.okWrite_lock (s : State) : (s.okWrite).lock = s.lock := rfl
@[simp] theorem State.okWrite_power (s : State) : (s.okWrite).power = s.power := rfl
@[simp] theorem State.okWrite_pe (s : State) : (s.okWrite).pe = s.pe := rfl
@[simp] theorem State.okWrite_sampleAddr (s : State) : (s.okWrite).sampleAddr = s.sampleAddr := rfl
@[simp] theorem State.okWrite_earlierContexts (s : State) : (s.okWrite).earlierContexts = s.earlierContexts := rfl
@[simp] theorem State.okWrite_auth (s : State) : (s.okWrite).auth = s.auth := rfl
@[simp] theorem State.okWrite_earlierAuth (s : State) : (s.okWrite).earlierAuth = s.earlierAuth := rfl
@[simp] theorem State.okWrite_lateControls (s : State) : (s.okWrite).lateControls = s.lateControls := rfl
@[simp] theorem State.okWrite_env (s : State) : (s.okWrite).env = s.env := rfl
@[simp] theorem State.okWrite_acrReset (s : State) : (s.okWrite).acrReset = s.acrReset := rfl
@[simp] theorem State.okWrite_response (s : State) : (s.okWrite).response = .okWrite := rfl
@[simp] theorem State.okWrite_inputs (s : State) : (s.okWrite).inputs = s.inputs := rfl
@[simp] theorem State.okWrite_draws (s : State) : (s.okWrite).draws = s.draws := rfl

/-! ### raiseError -/

@[simp] theorem State.raiseError_cfg (s : State) (ad : AddrDesc) (e : ErrorClause) :
    (s.raiseError ad e).cfg = s.cfg := rfl
@[simp] theorem State.raiseError_regs (s : State) (ad : AddrDesc) (e : ErrorClause) :
    (s.raiseError ad e).regs = s.regs := rfl
@[simp] theorem State.raiseError_dcc (s : State) (ad : AddrDesc) (e : ErrorClause) :
    (s.raiseError ad e).dcc = s.dcc := rfl
@[simp] theorem State.raiseError_ctl (s : State) (ad : AddrDesc) (e : ErrorClause) :
    (s.raiseError ad e).ctl = s.ctl := rfl
@[simp] theorem State.raiseError_smp (s : State) (ad : AddrDesc) (e : ErrorClause) :
    (s.raiseError ad e).smp = s.smp := rfl
@[simp] theorem State.raiseError_hal (s : State) (ad : AddrDesc) (e : ErrorClause) :
    (s.raiseError ad e).hal = s.hal := rfl
@[simp] theorem State.raiseError_sticky (s : State) (ad : AddrDesc) (e : ErrorClause) :
    (s.raiseError ad e).sticky = { s.sticky with sdad := s.sticky.sdad || e.soleCauseIsAllow s ad } := rfl
@[simp] theorem State.raiseError_lock (s : State) (ad : AddrDesc) (e : ErrorClause) :
    (s.raiseError ad e).lock = s.lock := rfl
@[simp] theorem State.raiseError_power (s : State) (ad : AddrDesc) (e : ErrorClause) :
    (s.raiseError ad e).power = s.power := rfl
@[simp] theorem State.raiseError_pe (s : State) (ad : AddrDesc) (e : ErrorClause) :
    (s.raiseError ad e).pe = s.pe := rfl
@[simp] theorem State.raiseError_sampleAddr (s : State) (ad : AddrDesc) (e : ErrorClause) :
    (s.raiseError ad e).sampleAddr = s.sampleAddr := rfl
@[simp] theorem State.raiseError_earlierContexts (s : State) (ad : AddrDesc) (e : ErrorClause) :
    (s.raiseError ad e).earlierContexts = s.earlierContexts := rfl
@[simp] theorem State.raiseError_auth (s : State) (ad : AddrDesc) (e : ErrorClause) :
    (s.raiseError ad e).auth = s.auth := rfl
@[simp] theorem State.raiseError_earlierAuth (s : State) (ad : AddrDesc) (e : ErrorClause) :
    (s.raiseError ad e).earlierAuth = s.earlierAuth := rfl
@[simp] theorem State.raiseError_lateControls (s : State) (ad : AddrDesc) (e : ErrorClause) :
    (s.raiseError ad e).lateControls = s.lateControls := rfl
@[simp] theorem State.raiseError_env (s : State) (ad : AddrDesc) (e : ErrorClause) :
    (s.raiseError ad e).env = s.env := rfl
@[simp] theorem State.raiseError_acrReset (s : State) (ad : AddrDesc) (e : ErrorClause) :
    (s.raiseError ad e).acrReset = s.acrReset := rfl
@[simp] theorem State.raiseError_response (s : State) (ad : AddrDesc) (e : ErrorClause) :
    (s.raiseError ad e).response = .error := rfl
@[simp] theorem State.raiseError_inputs (s : State) (ad : AddrDesc) (e : ErrorClause) :
    (s.raiseError ad e).inputs = s.inputs := rfl
@[simp] theorem State.raiseError_draws (s : State) (ad : AddrDesc) (e : ErrorClause) :
    (s.raiseError ad e).draws = s.draws := rfl

/-! ### mapEdscr -/

@[simp] theorem State.mapEdscr_cfg (s : State) (f : Word → Word) : (s.mapEdscr f).cfg = s.cfg := rfl
@[simp] theorem State.mapEdscr_regs (s : State) (f : Word → Word) : (s.mapEdscr f).regs = s.regs := rfl
@[simp] theorem State.mapEdscr_dcc (s : State) (f : Word → Word) : (s.mapEdscr f).dcc = s.dcc := rfl
@[simp] theorem State.mapEdscr_ctl (s : State) (f : Word → Word) :
    (s.mapEdscr f).ctl = { s.ctl with edscr := f s.ctl.edscr } := rfl
@[simp] theorem State.mapEdscr_smp (s : State) (f : Word → Word) : (s.mapEdscr f).smp = s.smp := rfl
@[simp] theorem State.mapEdscr_hal (s : State) (f : Word → Word) : (s.mapEdscr f).hal = s.hal := rfl
@[simp] theorem State.mapEdscr_sticky (s : State) (f : Word → Word) : (s.mapEdscr f).sticky = s.sticky := rfl
@[simp] theorem State.mapEdscr_lock (s : State) (f : Word → Word) : (s.mapEdscr f).lock = s.lock := rfl
@[simp] theorem State.mapEdscr_power (s : State) (f : Word → Word) : (s.mapEdscr f).power = s.power := rfl
@[simp] theorem State.mapEdscr_pe (s : State) (f : Word → Word) : (s.mapEdscr f).pe = s.pe := rfl
@[simp] theorem State.mapEdscr_sampleAddr (s : State) (f : Word → Word) :
    (s.mapEdscr f).sampleAddr = s.sampleAddr := rfl
@[simp] theorem State.mapEdscr_earlierContexts (s : State) (f : Word → Word) :
    (s.mapEdscr f).earlierContexts = s.earlierContexts := rfl
@[simp] theorem State.mapEdscr_auth (s : State) (f : Word → Word) : (s.mapEdscr f).auth = s.auth := rfl
@[simp] theorem State.mapEdscr_earlierAuth (s : State) (f : Word → Word) :
    (s.mapEdscr f).earlierAuth = s.earlierAuth := rfl
@[simp] theorem State.mapEdscr_lateControls (s : State) (f : Word → Word) :
    (s.mapEdscr f).lateControls = s.lateControls := rfl
@[simp] theorem State.mapEdscr_env (s : State) (f : Word → Word) : (s.mapEdscr f).env = s.env := rfl
@[simp] theorem State.mapEdscr_acrReset (s : State) (f : Word → Word) : (s.mapEdscr f).acrReset = s.acrReset := rfl
@[simp] theorem State.mapEdscr_response (s : State) (f : Word → Word) : (s.mapEdscr f).response = s.response := rfl
@[simp] theorem State.mapEdscr_inputs (s : State) (f : Word → Word) : (s.mapEdscr f).inputs = s.inputs := rfl
@[simp] theorem State.mapEdscr_draws (s : State) (f : Word → Word) : (s.mapEdscr f).draws = s.draws := rfl

/-! ### mapEdesr -/

@[simp] theorem State.mapEdesr_cfg (s : State) (f : Word → Word) : (s.mapEdesr f).cfg = s.cfg := rfl
@[simp] theorem State.mapEdesr_regs (s : State) (f : Word → Word) : (s.mapEdesr f).regs = s.regs := rfl
@[simp] theorem State.mapEdesr_dcc (s : State) (f : Word → Word) : (s.mapEdesr f).dcc = s.dcc := rfl
@[simp] theorem State.mapEdesr_ctl (s : State) (f : Word → Word) :
    (s.mapEdesr f).ctl = { s.ctl with edesr := f s.ctl.edesr } := rfl
@[simp] theorem State.mapEdesr_smp (s : State) (f : Word → Word) : (s.mapEdesr f).smp = s.smp := rfl
@[simp] theorem State.mapEdesr_hal (s : State) (f : Word → Word) : (s.mapEdesr f).hal = s.hal := rfl
@[simp] theorem State.mapEdesr_sticky (s : State) (f : Word → Word) : (s.mapEdesr f).sticky = s.sticky := rfl
@[simp] theorem State.mapEdesr_lock (s : State) (f : Word → Word) : (s.mapEdesr f).lock = s.lock := rfl
@[simp] theorem State.mapEdesr_power (s : State) (f : Word → Word) : (s.mapEdesr f).power = s.power := rfl
@[simp] theorem State.mapEdesr_pe (s : State) (f : Word → Word) : (s.mapEdesr f).pe = s.pe := rfl
@[simp] theorem State.mapEdesr_sampleAddr (s : State) (f : Word → Word) :
    (s.mapEdesr f).sampleAddr = s.sampleAddr := rfl
@[simp] theorem State.mapEdesr_earlierContexts (s : State) (f : Word → Word) :
    (s.mapEdesr f).earlierContexts = s.earlierContexts := rfl
@[simp] theorem State.mapEdesr_auth (s : State) (f : Word → Word) : (s.mapEdesr f).auth = s.auth := rfl
@[simp] theorem State.mapEdesr_earlierAuth (s : State) (f : Word → Word) :
    (s.mapEdesr f).earlierAuth = s.earlierAuth := rfl
@[simp] theorem State.mapEdesr_lateControls (s : State) (f : Word → Word) :
    (s.mapEdesr f).lateControls = s.lateControls := rfl
@[simp] theorem State.mapEdesr_env (s : State) (f : Word → Word) : (s.mapEdesr f).env = s.env := rfl
@[simp] theorem State.mapEdesr_acrReset (s : State) (f : Word → Word) : (s.mapEdesr f).acrReset = s.acrReset := rfl
@[simp] theorem State.mapEdesr_response (s : State) (f : Word → Word) : (s.mapEdesr f).response = s.response := rfl
@[simp] theorem State.mapEdesr_inputs (s : State) (f : Word → Word) : (s.mapEdesr f).inputs = s.inputs := rfl
@[simp] theorem State.mapEdesr_draws (s : State) (f : Word → Word) : (s.mapEdesr f).draws = s.draws := rfl

/-! ### setClaim -/

@[simp] theorem State.setClaim_cfg (s : State) (v : BitVec 8) : (s.setClaim v).cfg = s.cfg := rfl
@[simp] theorem State.setClaim_regs (s : State) (v : BitVec 8) : (s.setClaim v).regs = s.regs := rfl
@[simp] theorem State.setClaim_dcc (s : State) (v : BitVec 8) : (s.setClaim v).dcc = { s.dcc with claim := v } := rfl
@[simp] theorem State.setClaim_ctl (s : State) (v : BitVec 8) : (s.setClaim v).ctl = s.ctl := rfl
@[simp] theorem State.setClaim_smp (s : State) (v : BitVec 8) : (s.setClaim v).smp = s.smp := rfl
@[simp] theorem State.setClaim_hal (s : State) (v : BitVec 8) : (s.setClaim v).hal = s.hal := rfl
@[simp] theorem State.setClaim_sticky (s : State) (v : BitVec 8) : (s.setClaim v).sticky = s.sticky := rfl
@[simp] theorem State.setClaim_lock (s : State) (v : BitVec 8) : (s.setClaim v).lock = s.lock := rfl
@[simp] theorem State.setClaim_power (s : State) (v : BitVec 8) : (s.setClaim v).power = s.power := rfl
@[simp] theorem State.setClaim_pe (s : State) (v : BitVec 8) : (s.setClaim v).pe = s.pe := rfl
@[simp] theorem State.setClaim_sampleAddr (s : State) (v : BitVec 8) : (s.setClaim v).sampleAddr = s.sampleAddr := rfl
@[simp] theorem State.setClaim_earlierContexts (s : State) (v : BitVec 8) :
    (s.setClaim v).earlierContexts = s.earlierContexts := rfl
@[simp] theorem State.setClaim_auth (s : State) (v : BitVec 8) : (s.setClaim v).auth = s.auth := rfl
@[simp] theorem State.setClaim_earlierAuth (s : State) (v : BitVec 8) :
    (s.setClaim v).earlierAuth = s.earlierAuth := rfl
@[simp] theorem State.setClaim_lateControls (s : State) (v : BitVec 8) :
    (s.setClaim v).lateControls = s.lateControls := rfl
@[simp] theorem State.setClaim_env (s : State) (v : BitVec 8) : (s.setClaim v).env = s.env := rfl
@[simp] theorem State.setClaim_acrReset (s : State) (v : BitVec 8) : (s.setClaim v).acrReset = s.acrReset := rfl
@[simp] theorem State.setClaim_response (s : State) (v : BitVec 8) : (s.setClaim v).response = s.response := rfl
@[simp] theorem State.setClaim_inputs (s : State) (v : BitVec 8) : (s.setClaim v).inputs = s.inputs := rfl
@[simp] theorem State.setClaim_draws (s : State) (v : BitVec 8) : (s.setClaim v).draws = s.draws := rfl

/-! ### setBvr -/

@[simp] theorem State.setBvr_cfg (s : State) (n : Index) (v : Dword) : (s.setBvr n v).cfg = s.cfg := rfl
@[simp] theorem State.setBvr_regs (s : State) (n : Index) (v : Dword) :
    (s.setBvr n v).regs = { s.regs with bvr := s.regs.bvr.set n.toFin v n.toFin.isLt } := rfl
@[simp] theorem State.setBvr_dcc (s : State) (n : Index) (v : Dword) : (s.setBvr n v).dcc = s.dcc := rfl
@[simp] theorem State.setBvr_ctl (s : State) (n : Index) (v : Dword) : (s.setBvr n v).ctl = s.ctl := rfl
@[simp] theorem State.setBvr_smp (s : State) (n : Index) (v : Dword) : (s.setBvr n v).smp = s.smp := rfl
@[simp] theorem State.setBvr_hal (s : State) (n : Index) (v : Dword) : (s.setBvr n v).hal = s.hal := rfl
@[simp] theorem State.setBvr_sticky (s : State) (n : Index) (v : Dword) : (s.setBvr n v).sticky = s.sticky := rfl
@[simp] theorem State.setBvr_lock (s : State) (n : Index) (v : Dword) : (s.setBvr n v).lock = s.lock := rfl
@[simp] theorem State.setBvr_power (s : State) (n : Index) (v : Dword) : (s.setBvr n v).power = s.power := rfl
@[simp] theorem State.setBvr_pe (s : State) (n : Index) (v : Dword) : (s.setBvr n v).pe = s.pe := rfl
@[simp] theorem State.setBvr_sampleAddr (s : State) (n : Index) (v : Dword) :
    (s.setBvr n v).sampleAddr = s.sampleAddr := rfl
@[simp] theorem State.setBvr_earlierContexts (s : State) (n : Index) (v : Dword) :
    (s.setBvr n v).earlierContexts = s.earlierContexts := rfl
@[simp] theorem State.setBvr_auth (s : State) (n : Index) (v : Dword) : (s.setBvr n v).auth = s.auth := rfl
@[simp] theorem State.setBvr_earlierAuth (s : State) (n : Index) (v : Dword) :
    (s.setBvr n v).earlierAuth = s.earlierAuth := rfl
@[simp] theorem State.setBvr_lateControls (s : State) (n : Index) (v : Dword) :
    (s.setBvr n v).lateControls = s.lateControls := rfl
@[simp] theorem State.setBvr_env (s : State) (n : Index) (v : Dword) : (s.setBvr n v).env = s.env := rfl
@[simp] theorem State.setBvr_acrReset (s : State) (n : Index) (v : Dword) :
    (s.setBvr n v).acrReset = s.acrReset := rfl
@[simp] theorem State.setBvr_response (s : State) (n : Index) (v : Dword) :
    (s.setBvr n v).response = s.response := rfl
@[simp] theorem State.setBvr_inputs (s : State) (n : Index) (v : Dword) : (s.setBvr n v).inputs = s.inputs := rfl
@[simp] theorem State.setBvr_draws (s : State) (n : Index) (v : Dword) : (s.setBvr n v).draws = s.draws := rfl

/-! ### setBcr -/

@[simp] theorem State.setBcr_cfg (s : State) (n : Index) (v : Dword) : (s.setBcr n v).cfg = s.cfg := rfl
@[simp] theorem State.setBcr_regs (s : State) (n : Index) (v : Dword) :
    (s.setBcr n v).regs = { s.regs with bcr := s.regs.bcr.set n.toFin v n.toFin.isLt } := rfl
@[simp] theorem State.setBcr_dcc (s : State) (n : Index) (v : Dword) : (s.setBcr n v).dcc = s.dcc := rfl
@[simp] theorem State.setBcr_ctl (s : State) (n : Index) (v : Dword) : (s.setBcr n v).ctl = s.ctl := rfl
@[simp] theorem State.setBcr_smp (s : State) (n : Index) (v : Dword) : (s.setBcr n v).smp = s.smp := rfl
@[simp] theorem State.setBcr_hal (s : State) (n : Index) (v : Dword) : (s.setBcr n v).hal = s.hal := rfl
@[simp] theorem State.setBcr_sticky (s : State) (n : Index) (v : Dword) : (s.setBcr n v).sticky = s.sticky := rfl
@[simp] theorem State.setBcr_lock (s : State) (n : Index) (v : Dword) : (s.setBcr n v).lock = s.lock := rfl
@[simp] theorem State.setBcr_power (s : State) (n : Index) (v : Dword) : (s.setBcr n v).power = s.power := rfl
@[simp] theorem State.setBcr_pe (s : State) (n : Index) (v : Dword) : (s.setBcr n v).pe = s.pe := rfl
@[simp] theorem State.setBcr_sampleAddr (s : State) (n : Index) (v : Dword) :
    (s.setBcr n v).sampleAddr = s.sampleAddr := rfl
@[simp] theorem State.setBcr_earlierContexts (s : State) (n : Index) (v : Dword) :
    (s.setBcr n v).earlierContexts = s.earlierContexts := rfl
@[simp] theorem State.setBcr_auth (s : State) (n : Index) (v : Dword) : (s.setBcr n v).auth = s.auth := rfl
@[simp] theorem State.setBcr_earlierAuth (s : State) (n : Index) (v : Dword) :
    (s.setBcr n v).earlierAuth = s.earlierAuth := rfl
@[simp] theorem State.setBcr_lateControls (s : State) (n : Index) (v : Dword) :
    (s.setBcr n v).lateControls = s.lateControls := rfl
@[simp] theorem State.setBcr_env (s : State) (n : Index) (v : Dword) : (s.setBcr n v).env = s.env := rfl
@[simp] theorem State.setBcr_acrReset (s : State) (n : Index) (v : Dword) :
    (s.setBcr n v).acrReset = s.acrReset := rfl
@[simp] theorem State.setBcr_response (s : State) (n : Index) (v : Dword) :
    (s.setBcr n v).response = s.response := rfl
@[simp] theorem State.setBcr_inputs (s : State) (n : Index) (v : Dword) : (s.setBcr n v).inputs = s.inputs := rfl
@[simp] theorem State.setBcr_draws (s : State) (n : Index) (v : Dword) : (s.setBcr n v).draws = s.draws := rfl

/-! ### setWvr -/

@[simp] theorem State.setWvr_cfg (s : State) (n : Index) (v : Dword) : (s.setWvr n v).cfg = s.cfg := rfl
@[simp] theorem State.setWvr_regs (s : State) (n : Index) (v : Dword) :
    (s.setWvr n v).regs = { s.regs with wvr := s.regs.wvr.set n.toFin v n.toFin.isLt } := rfl
@[simp] theorem State.setWvr_dcc (s : State) (n : Index) (v : Dword) : (s.setWvr n v).dcc = s.dcc := rfl
@[simp] theorem State.setWvr_ctl (s : State) (n : Index) (v : Dword) : (s.setWvr n v).ctl = s.ctl := rfl
@[simp] theorem State.setWvr_smp (s : State) (n : Index) (v : Dword) : (s.setWvr n v).smp = s.smp := rfl
@[simp] theorem State.setWvr_hal (s : State) (n : Index) (v : Dword) : (s.setWvr n v).hal = s.hal := rfl
@[simp] theorem State.setWvr_sticky (s : State) (n : Index) (v : Dword) : (s.setWvr n v).sticky = s.sticky := rfl
@[simp] theorem State.setWvr_lock (s : State) (n : Index) (v : Dword) : (s.setWvr n v).lock = s.lock := rfl
@[simp] theorem State.setWvr_power (s : State) (n : Index) (v : Dword) : (s.setWvr n v).power = s.power := rfl
@[simp] theorem State.setWvr_pe (s : State) (n : Index) (v : Dword) : (s.setWvr n v).pe = s.pe := rfl
@[simp] theorem State.setWvr_sampleAddr (s : State) (n : Index) (v : Dword) :
    (s.setWvr n v).sampleAddr = s.sampleAddr := rfl
@[simp] theorem State.setWvr_earlierContexts (s : State) (n : Index) (v : Dword) :
    (s.setWvr n v).earlierContexts = s.earlierContexts := rfl
@[simp] theorem State.setWvr_auth (s : State) (n : Index) (v : Dword) : (s.setWvr n v).auth = s.auth := rfl
@[simp] theorem State.setWvr_earlierAuth (s : State) (n : Index) (v : Dword) :
    (s.setWvr n v).earlierAuth = s.earlierAuth := rfl
@[simp] theorem State.setWvr_lateControls (s : State) (n : Index) (v : Dword) :
    (s.setWvr n v).lateControls = s.lateControls := rfl
@[simp] theorem State.setWvr_env (s : State) (n : Index) (v : Dword) : (s.setWvr n v).env = s.env := rfl
@[simp] theorem State.setWvr_acrReset (s : State) (n : Index) (v : Dword) :
    (s.setWvr n v).acrReset = s.acrReset := rfl
@[simp] theorem State.setWvr_response (s : State) (n : Index) (v : Dword) :
    (s.setWvr n v).response = s.response := rfl
@[simp] theorem State.setWvr_inputs (s : State) (n : Index) (v : Dword) : (s.setWvr n v).inputs = s.inputs := rfl
@[simp] theorem State.setWvr_draws (s : State) (n : Index) (v : Dword) : (s.setWvr n v).draws = s.draws := rfl

/-! ### setWcr -/

@[simp] theorem State.setWcr_cfg (s : State) (n : Index) (v : Dword) : (s.setWcr n v).cfg = s.cfg := rfl
@[simp] theorem State.setWcr_regs (s : State) (n : Index) (v : Dword) :
    (s.setWcr n v).regs = { s.regs with wcr := s.regs.wcr.set n.toFin v n.toFin.isLt } := rfl
@[simp] theorem State.setWcr_dcc (s : State) (n : Index) (v : Dword) : (s.setWcr n v).dcc = s.dcc := rfl
@[simp] theorem State.setWcr_ctl (s : State) (n : Index) (v : Dword) : (s.setWcr n v).ctl = s.ctl := rfl
@[simp] theorem State.setWcr_smp (s : State) (n : Index) (v : Dword) : (s.setWcr n v).smp = s.smp := rfl
@[simp] theorem State.setWcr_hal (s : State) (n : Index) (v : Dword) : (s.setWcr n v).hal = s.hal := rfl
@[simp] theorem State.setWcr_sticky (s : State) (n : Index) (v : Dword) : (s.setWcr n v).sticky = s.sticky := rfl
@[simp] theorem State.setWcr_lock (s : State) (n : Index) (v : Dword) : (s.setWcr n v).lock = s.lock := rfl
@[simp] theorem State.setWcr_power (s : State) (n : Index) (v : Dword) : (s.setWcr n v).power = s.power := rfl
@[simp] theorem State.setWcr_pe (s : State) (n : Index) (v : Dword) : (s.setWcr n v).pe = s.pe := rfl
@[simp] theorem State.setWcr_sampleAddr (s : State) (n : Index) (v : Dword) :
    (s.setWcr n v).sampleAddr = s.sampleAddr := rfl
@[simp] theorem State.setWcr_earlierContexts (s : State) (n : Index) (v : Dword) :
    (s.setWcr n v).earlierContexts = s.earlierContexts := rfl
@[simp] theorem State.setWcr_auth (s : State) (n : Index) (v : Dword) : (s.setWcr n v).auth = s.auth := rfl
@[simp] theorem State.setWcr_earlierAuth (s : State) (n : Index) (v : Dword) :
    (s.setWcr n v).earlierAuth = s.earlierAuth := rfl
@[simp] theorem State.setWcr_lateControls (s : State) (n : Index) (v : Dword) :
    (s.setWcr n v).lateControls = s.lateControls := rfl
@[simp] theorem State.setWcr_env (s : State) (n : Index) (v : Dword) : (s.setWcr n v).env = s.env := rfl
@[simp] theorem State.setWcr_acrReset (s : State) (n : Index) (v : Dword) :
    (s.setWcr n v).acrReset = s.acrReset := rfl
@[simp] theorem State.setWcr_response (s : State) (n : Index) (v : Dword) :
    (s.setWcr n v).response = s.response := rfl
@[simp] theorem State.setWcr_inputs (s : State) (n : Index) (v : Dword) : (s.setWcr n v).inputs = s.inputs := rfl
@[simp] theorem State.setWcr_draws (s : State) (n : Index) (v : Dword) : (s.setWcr n v).draws = s.draws := rfl

/-! ### withPe -/

@[simp] theorem State.withPe_cfg (s : State) (p : PeView) : (s.withPe p).cfg = s.cfg := rfl
@[simp] theorem State.withPe_regs (s : State) (p : PeView) : (s.withPe p).regs = s.regs := rfl
@[simp] theorem State.withPe_dcc (s : State) (p : PeView) : (s.withPe p).dcc = s.dcc := rfl
@[simp] theorem State.withPe_ctl (s : State) (p : PeView) : (s.withPe p).ctl = s.ctl := rfl
@[simp] theorem State.withPe_smp (s : State) (p : PeView) : (s.withPe p).smp = s.smp := rfl
@[simp] theorem State.withPe_hal (s : State) (p : PeView) : (s.withPe p).hal = s.hal := rfl
@[simp] theorem State.withPe_sticky (s : State) (p : PeView) : (s.withPe p).sticky = s.sticky := rfl
@[simp] theorem State.withPe_lock (s : State) (p : PeView) : (s.withPe p).lock = s.lock := rfl
@[simp] theorem State.withPe_power (s : State) (p : PeView) : (s.withPe p).power = s.power := rfl
@[simp] theorem State.withPe_pe (s : State) (p : PeView) : (s.withPe p).pe = p := rfl
@[simp] theorem State.withPe_sampleAddr (s : State) (p : PeView) : (s.withPe p).sampleAddr = s.sampleAddr := rfl
@[simp] theorem State.withPe_auth (s : State) (p : PeView) : (s.withPe p).auth = s.auth := rfl
@[simp] theorem State.withPe_earlierAuth (s : State) (p : PeView) : (s.withPe p).earlierAuth = s.earlierAuth := rfl
@[simp] theorem State.withPe_lateControls (s : State) (p : PeView) :
    (s.withPe p).lateControls = s.lateControls := rfl
@[simp] theorem State.withPe_env (s : State) (p : PeView) : (s.withPe p).env = s.env := rfl
@[simp] theorem State.withPe_acrReset (s : State) (p : PeView) : (s.withPe p).acrReset = s.acrReset := rfl
@[simp] theorem State.withPe_response (s : State) (p : PeView) : (s.withPe p).response = s.response := rfl
@[simp] theorem State.withPe_inputs (s : State) (p : PeView) : (s.withPe p).inputs = s.inputs := rfl
@[simp] theorem State.withPe_draws (s : State) (p : PeView) : (s.withPe p).draws = s.draws := rfl

/-! ### withEnv -/

@[simp] theorem State.withEnv_cfg (s : State) (e : Env) : (s.withEnv e).cfg = s.cfg := rfl
@[simp] theorem State.withEnv_regs (s : State) (e : Env) : (s.withEnv e).regs = s.regs := rfl
@[simp] theorem State.withEnv_dcc (s : State) (e : Env) : (s.withEnv e).dcc = s.dcc := rfl
@[simp] theorem State.withEnv_ctl (s : State) (e : Env) : (s.withEnv e).ctl = s.ctl := rfl
@[simp] theorem State.withEnv_smp (s : State) (e : Env) :
    (s.withEnv e).smp = { s.smp with fresh := s.smp.fresh && !e.pcSampleProhibited } := rfl
@[simp] theorem State.withEnv_hal (s : State) (e : Env) : (s.withEnv e).hal = s.hal := rfl
@[simp] theorem State.withEnv_sticky (s : State) (e : Env) : (s.withEnv e).sticky = s.sticky := rfl
@[simp] theorem State.withEnv_lock (s : State) (e : Env) : (s.withEnv e).lock = s.lock := rfl
@[simp] theorem State.withEnv_power (s : State) (e : Env) : (s.withEnv e).power = s.power := rfl
@[simp] theorem State.withEnv_pe (s : State) (e : Env) : (s.withEnv e).pe = s.pe := rfl
@[simp] theorem State.withEnv_sampleAddr (s : State) (e : Env) : (s.withEnv e).sampleAddr = s.sampleAddr := rfl
@[simp] theorem State.withEnv_earlierContexts (s : State) (e : Env) :
    (s.withEnv e).earlierContexts = s.earlierContexts := rfl
@[simp] theorem State.withEnv_auth (s : State) (e : Env) : (s.withEnv e).auth = s.auth := rfl
@[simp] theorem State.withEnv_earlierAuth (s : State) (e : Env) : (s.withEnv e).earlierAuth = s.earlierAuth := rfl
@[simp] theorem State.withEnv_lateControls (s : State) (e : Env) :
    (s.withEnv e).lateControls = s.lateControls := rfl
@[simp] theorem State.withEnv_env (s : State) (e : Env) : (s.withEnv e).env = e := rfl
@[simp] theorem State.withEnv_acrReset (s : State) (e : Env) : (s.withEnv e).acrReset = s.acrReset := rfl
@[simp] theorem State.withEnv_response (s : State) (e : Env) : (s.withEnv e).response = s.response := rfl
@[simp] theorem State.withEnv_inputs (s : State) (e : Env) : (s.withEnv e).inputs = s.inputs := rfl
@[simp] theorem State.withEnv_draws (s : State) (e : Env) : (s.withEnv e).draws = s.draws := rfl

/-! ### consume -/

@[simp] theorem State.consume_cfg (s : State) (rest : List Event) : (s.consume rest).cfg = s.cfg := rfl
@[simp] theorem State.consume_regs (s : State) (rest : List Event) : (s.consume rest).regs = s.regs := rfl
@[simp] theorem State.consume_dcc (s : State) (rest : List Event) : (s.consume rest).dcc = s.dcc := rfl
@[simp] theorem State.consume_ctl (s : State) (rest : List Event) : (s.consume rest).ctl = s.ctl := rfl
@[simp] theorem State.consume_smp (s : State) (rest : List Event) : (s.consume rest).smp = s.smp := rfl
@[simp] theorem State.consume_hal (s : State) (rest : List Event) : (s.consume rest).hal = s.hal := rfl
@[simp] theorem State.consume_sticky (s : State) (rest : List Event) : (s.consume rest).sticky = s.sticky := rfl
@[simp] theorem State.consume_lock (s : State) (rest : List Event) : (s.consume rest).lock = s.lock := rfl
@[simp] theorem State.consume_power (s : State) (rest : List Event) : (s.consume rest).power = s.power := rfl
@[simp] theorem State.consume_pe (s : State) (rest : List Event) : (s.consume rest).pe = s.pe := rfl
@[simp] theorem State.consume_sampleAddr (s : State) (rest : List Event) :
    (s.consume rest).sampleAddr = s.sampleAddr := rfl
@[simp] theorem State.consume_earlierContexts (s : State) (rest : List Event) :
    (s.consume rest).earlierContexts = s.earlierContexts := rfl
@[simp] theorem State.consume_auth (s : State) (rest : List Event) : (s.consume rest).auth = s.auth := rfl
@[simp] theorem State.consume_earlierAuth (s : State) (rest : List Event) :
    (s.consume rest).earlierAuth = s.earlierAuth := rfl
@[simp] theorem State.consume_lateControls (s : State) (rest : List Event) :
    (s.consume rest).lateControls = s.lateControls := rfl
@[simp] theorem State.consume_env (s : State) (rest : List Event) : (s.consume rest).env = s.env := rfl
@[simp] theorem State.consume_acrReset (s : State) (rest : List Event) : (s.consume rest).acrReset = s.acrReset := rfl
@[simp] theorem State.consume_response (s : State) (rest : List Event) : (s.consume rest).response = s.response := rfl
@[simp] theorem State.consume_inputs (s : State) (rest : List Event) : (s.consume rest).inputs = rest := rfl
@[simp] theorem State.consume_draws (s : State) (rest : List Event) : (s.consume rest).draws = s.draws + 1 := rfl

/-! ### remember -/

@[simp] theorem State.remember_cfg (s : State) (i : Instr) (t : State) : (s.remember i t).cfg = t.cfg := rfl
@[simp] theorem State.remember_regs (s : State) (i : Instr) (t : State) : (s.remember i t).regs = t.regs := rfl
@[simp] theorem State.remember_dcc (s : State) (i : Instr) (t : State) : (s.remember i t).dcc = t.dcc := rfl
@[simp] theorem State.remember_ctl (s : State) (i : Instr) (t : State) : (s.remember i t).ctl = t.ctl := rfl
@[simp] theorem State.remember_smp (s : State) (i : Instr) (t : State) : (s.remember i t).smp = t.smp := rfl
@[simp] theorem State.remember_hal (s : State) (i : Instr) (t : State) : (s.remember i t).hal = t.hal := rfl
@[simp] theorem State.remember_sticky (s : State) (i : Instr) (t : State) : (s.remember i t).sticky = t.sticky := rfl
@[simp] theorem State.remember_lock (s : State) (i : Instr) (t : State) : (s.remember i t).lock = t.lock := rfl
@[simp] theorem State.remember_power (s : State) (i : Instr) (t : State) : (s.remember i t).power = t.power := rfl
@[simp] theorem State.remember_pe (s : State) (i : Instr) (t : State) : (s.remember i t).pe = t.pe := rfl
@[simp] theorem State.remember_sampleAddr (s : State) (i : Instr) (t : State) :
    (s.remember i t).sampleAddr = t.sampleAddr := rfl
@[simp] theorem State.remember_earlierContexts (s : State) (i : Instr) (t : State) :
    (s.remember i t).earlierContexts = t.earlierContexts := rfl
@[simp] theorem State.remember_auth (s : State) (i : Instr) (t : State) : (s.remember i t).auth = t.auth := rfl
@[simp] theorem State.remember_earlierAuth (s : State) (i : Instr) (t : State) :
    (s.remember i t).earlierAuth = t.earlierAuth := rfl
@[simp] theorem State.remember_env (s : State) (i : Instr) (t : State) : (s.remember i t).env = t.env := rfl
@[simp] theorem State.remember_acrReset (s : State) (i : Instr) (t : State) :
    (s.remember i t).acrReset = t.acrReset := rfl
@[simp] theorem State.remember_response (s : State) (i : Instr) (t : State) :
    (s.remember i t).response = t.response := rfl
@[simp] theorem State.remember_inputs (s : State) (i : Instr) (t : State) : (s.remember i t).inputs = t.inputs := rfl
@[simp] theorem State.remember_draws (s : State) (i : Instr) (t : State) : (s.remember i t).draws = t.draws := rfl
@[simp] theorem State.remember_lateControls (s : State) (i : Instr) (t : State) :
    (s.remember i t).lateControls =
      match writtenControl i with
      | none => t.lateControls
      | some r => if t.control r = s.control r then t.lateControls else (r, s.control r) :: t.lateControls := rfl

/-! ### settle -/

@[simp] theorem State.settle_cfg (s : State) (m : ControlReg → Dword) : (s.settle m).cfg = s.cfg := rfl
@[simp] theorem State.settle_regs (s : State) (m : ControlReg → Dword) : (s.settle m).regs = s.regs := rfl
@[simp] theorem State.settle_dcc (s : State) (m : ControlReg → Dword) : (s.settle m).dcc = s.dcc := rfl
@[simp] theorem State.settle_ctl (s : State) (m : ControlReg → Dword) : (s.settle m).ctl = s.ctl := rfl
@[simp] theorem State.settle_smp (s : State) (m : ControlReg → Dword) : (s.settle m).smp = s.smp := rfl
@[simp] theorem State.settle_hal (s : State) (m : ControlReg → Dword) : (s.settle m).hal = s.hal := rfl
@[simp] theorem State.settle_sticky (s : State) (m : ControlReg → Dword) : (s.settle m).sticky = s.sticky := rfl
@[simp] theorem State.settle_lock (s : State) (m : ControlReg → Dword) : (s.settle m).lock = s.lock := rfl
@[simp] theorem State.settle_power (s : State) (m : ControlReg → Dword) : (s.settle m).power = s.power := rfl
@[simp] theorem State.settle_pe (s : State) (m : ControlReg → Dword) : (s.settle m).pe = s.pe := rfl
@[simp] theorem State.settle_sampleAddr (s : State) (m : ControlReg → Dword) :
    (s.settle m).sampleAddr = s.sampleAddr := rfl
@[simp] theorem State.settle_earlierContexts (s : State) (m : ControlReg → Dword) :
    (s.settle m).earlierContexts = s.earlierContexts := rfl
@[simp] theorem State.settle_auth (s : State) (m : ControlReg → Dword) : (s.settle m).auth = s.auth := rfl
@[simp] theorem State.settle_earlierAuth (s : State) (m : ControlReg → Dword) :
    (s.settle m).earlierAuth = s.earlierAuth := rfl
@[simp] theorem State.settle_env (s : State) (m : ControlReg → Dword) : (s.settle m).env = s.env := rfl
@[simp] theorem State.settle_acrReset (s : State) (m : ControlReg → Dword) :
    (s.settle m).acrReset = s.acrReset := rfl
@[simp] theorem State.settle_response (s : State) (m : ControlReg → Dword) :
    (s.settle m).response = s.response := rfl
@[simp] theorem State.settle_inputs (s : State) (m : ControlReg → Dword) : (s.settle m).inputs = s.inputs := rfl
@[simp] theorem State.settle_draws (s : State) (m : ControlReg → Dword) : (s.settle m).draws = s.draws := rfl
@[simp] theorem State.settle_lateControls (s : State) (m : ControlReg → Dword) :
    (s.settle m).lateControls =
      s.lateControls.map fun p => (p.1, merge (m p.1) p.2 (s.control p.1)) := rfl
@[simp] theorem State.settle_control (s : State) (m : ControlReg → Dword) (r : ControlReg) :
    (s.settle m).control r = s.control r := by cases r <;> rfl

/-! ### seen -/

@[simp] theorem State.seen_cfg (s : State) : s.seen.cfg = s.cfg := by unfold State.seen; split <;> rfl
@[simp] theorem State.seen_dcc (s : State) : s.seen.dcc = s.dcc := by unfold State.seen; split <;> rfl
@[simp] theorem State.seen_smp (s : State) : s.seen.smp = s.smp := by unfold State.seen; split <;> rfl
@[simp] theorem State.seen_hal (s : State) : s.seen.hal = s.hal := by unfold State.seen; split <;> rfl
@[simp] theorem State.seen_sticky (s : State) : s.seen.sticky = s.sticky := by unfold State.seen; split <;> rfl
@[simp] theorem State.seen_power (s : State) : s.seen.power = s.power := by unfold State.seen; split <;> rfl
@[simp] theorem State.seen_pe (s : State) : s.seen.pe = s.pe := by unfold State.seen; split <;> rfl
@[simp] theorem State.seen_sampleAddr (s : State) : s.seen.sampleAddr = s.sampleAddr := by unfold State.seen; split <;> rfl
@[simp] theorem State.seen_earlierContexts (s : State) : s.seen.earlierContexts = s.earlierContexts := by unfold State.seen; split <;> rfl
@[simp] theorem State.seen_auth (s : State) : s.seen.auth = s.auth := by unfold State.seen; split <;> rfl
@[simp] theorem State.seen_earlierAuth (s : State) : s.seen.earlierAuth = s.earlierAuth := by unfold State.seen; split <;> rfl
@[simp] theorem State.seen_env (s : State) : s.seen.env = s.env := by unfold State.seen; split <;> rfl
@[simp] theorem State.seen_lateControls (s : State) : s.seen.lateControls = s.lateControls := by unfold State.seen; split <;> rfl
@[simp] theorem State.seen_acrReset (s : State) : s.seen.acrReset = s.acrReset := by unfold State.seen; split <;> rfl
@[simp] theorem State.seen_response (s : State) : s.seen.response = s.response := by unfold State.seen; split <;> rfl
@[simp] theorem State.seen_inputs (s : State) : s.seen.inputs = s.inputs := by unfold State.seen; split <;> rfl
@[simp] theorem State.seen_draws (s : State) : s.seen.draws = s.draws := by unfold State.seen; split <;> rfl

/-! ### writeOsLock -/

@[simp] theorem State.writeOsLock_cfg (s : State) (b : Bool) : (s.writeOsLock b).cfg = s.cfg := rfl
@[simp] theorem State.writeOsLock_regs (s : State) (b : Bool) : (s.writeOsLock b).regs = s.regs := rfl
@[simp] theorem State.writeOsLock_dcc (s : State) (b : Bool) : (s.writeOsLock b).dcc = s.dcc := rfl
@[simp] theorem State.writeOsLock_smp (s : State) (b : Bool) : (s.writeOsLock b).smp = s.smp := rfl
@[simp] theorem State.writeOsLock_hal (s : State) (b : Bool) : (s.writeOsLock b).hal = s.hal := rfl
@[simp] theorem State.writeOsLock_sticky (s : State) (b : Bool) : (s.writeOsLock b).sticky = s.sticky := rfl
@[simp] theorem State.writeOsLock_lock (s : State) (b : Bool) :
    (s.writeOsLock b).lock = { s.lock with oslk := b } := rfl
@[simp] theorem State.writeOsLock_power (s : State) (b : Bool) : (s.writeOsLock b).power = s.power := rfl
@[simp] theorem State.writeOsLock_pe (s : State) (b : Bool) : (s.writeOsLock b).pe = s.pe := rfl
@[simp] theorem State.writeOsLock_sampleAddr (s : State) (b : Bool) :
    (s.writeOsLock b).sampleAddr = s.sampleAddr := rfl
@[simp] theorem State.writeOsLock_earlierContexts (s : State) (b : Bool) :
    (s.writeOsLock b).earlierContexts = s.earlierContexts := rfl
@[simp] theorem State.writeOsLock_auth (s : State) (b : Bool) : (s.writeOsLock b).auth = s.auth := rfl
@[simp] theorem State.writeOsLock_earlierAuth (s : State) (b : Bool) :
    (s.writeOsLock b).earlierAuth = s.earlierAuth := rfl
@[simp] theorem State.writeOsLock_lateControls (s : State) (b : Bool) :
    (s.writeOsLock b).lateControls = s.lateControls := rfl
@[simp] theorem State.writeOsLock_env (s : State) (b : Bool) : (s.writeOsLock b).env = s.env := rfl
@[simp] theorem State.writeOsLock_acrReset (s : State) (b : Bool) : (s.writeOsLock b).acrReset = s.acrReset := rfl
@[simp] theorem State.writeOsLock_response (s : State) (b : Bool) : (s.writeOsLock b).response = s.response := rfl
@[simp] theorem State.writeOsLock_inputs (s : State) (b : Bool) : (s.writeOsLock b).inputs = s.inputs := rfl
@[simp] theorem State.writeOsLock_draws (s : State) (b : Bool) : (s.writeOsLock b).draws = s.draws := rfl

/-! ### enterDebugState -/

@[simp] theorem State.enterDebugState_cfg (s : State) (r : HaltReason) : (s.enterDebugState r).cfg = s.cfg := rfl
@[simp] theorem State.enterDebugState_regs (s : State) (r : HaltReason) : (s.enterDebugState r).regs = s.regs := rfl
@[simp] theorem State.enterDebugState_dcc (s : State) (r : HaltReason) : (s.enterDebugState r).dcc = s.dcc := rfl
@[simp] theorem State.enterDebugState_smp (s : State) (r : HaltReason) :
    (s.enterDebugState r).smp = { s.smp with fresh := false } := rfl
@[simp] theorem State.enterDebugState_sticky (s : State) (r : HaltReason) :
    (s.enterDebugState r).sticky = s.sticky := rfl
@[simp] theorem State.enterDebugState_lock (s : State) (r : HaltReason) : (s.enterDebugState r).lock = s.lock := rfl
@[simp] theorem State.enterDebugState_power (s : State) (r : HaltReason) :
    (s.enterDebugState r).power = s.power := rfl
@[simp] theorem State.enterDebugState_pe (s : State) (r : HaltReason) : (s.enterDebugState r).pe = s.pe := rfl
@[simp] theorem State.enterDebugState_sampleAddr (s : State) (r : HaltReason) :
    (s.enterDebugState r).sampleAddr = s.sampleAddr := rfl
@[simp] theorem State.enterDebugState_earlierContexts (s : State) (r : HaltReason) :
    (s.enterDebugState r).earlierContexts = s.earlierContexts := rfl
@[simp] theorem State.enterDebugState_auth (s : State) (r : HaltReason) : (s.enterDebugState r).auth = s.auth := rfl
@[simp] theorem State.enterDebugState_earlierAuth (s : State) (r : HaltReason) :
    (s.enterDebugState r).earlierAuth = s.earlierAuth := rfl
@[simp] theorem State.enterDebugState_lateControls (s : State) (r : HaltReason) :
    (s.enterDebugState r).lateControls =
      s.lateControls.map fun p =>
        (p.1, merge (bitsOf .edscr (dmask 20 20) p.1) p.2 ((s.enterDebugState r).control p.1)) := by
  refine List.map_congr_left fun p _ => ?_
  cases p.1 <;> rfl
@[simp] theorem State.enterDebugState_env (s : State) (r : HaltReason) : (s.enterDebugState r).env = s.env := rfl
@[simp] theorem State.enterDebugState_acrReset (s : State) (r : HaltReason) :
    (s.enterDebugState r).acrReset = s.acrReset := rfl
@[simp] theorem State.enterDebugState_response (s : State) (r : HaltReason) :
    (s.enterDebugState r).response = s.response := rfl
@[simp] theorem State.enterDebugState_inputs (s : State) (r : HaltReason) :
    (s.enterDebugState r).inputs = s.inputs := rfl
@[simp] theorem State.enterDebugState_draws (s : State) (r : HaltReason) :
    (s.enterDebugState r).draws = s.draws := rfl

/-! ### exitDebugState -/

@[simp] theorem State.exitDebugState_cfg (s : State) : (s.exitDebugState).cfg = s.cfg := rfl
@[simp] theorem State.exitDebugState_regs (s : State) : (s.exitDebugState).regs = s.regs := rfl
@[simp] theorem State.exitDebugState_dcc (s : State) : (s.exitDebugState).dcc = s.dcc := rfl
@[simp] theorem State.exitDebugState_ctl (s : State) :
    (s.exitDebugState).ctl = { s.ctl with edscr := edscrWithStatus s.ctl.edscr statusNonDebug } := rfl
@[simp] theorem State.exitDebugState_smp (s : State) : (s.exitDebugState).smp = s.smp := rfl
@[simp] theorem State.exitDebugState_sticky (s : State) :
    (s.exitDebugState).sticky = { s.sticky with sdr := true } := rfl
@[simp] theorem State.exitDebugState_lock (s : State) : (s.exitDebugState).lock = s.lock := rfl
@[simp] theorem State.exitDebugState_power (s : State) : (s.exitDebugState).power = s.power := rfl
@[simp] theorem State.exitDebugState_pe (s : State) : (s.exitDebugState).pe = s.pe := rfl
@[simp] theorem State.exitDebugState_sampleAddr (s : State) : (s.exitDebugState).sampleAddr = s.sampleAddr := rfl
@[simp] theorem State.exitDebugState_earlierContexts (s : State) :
    (s.exitDebugState).earlierContexts = s.earlierContexts := rfl
@[simp] theorem State.exitDebugState_auth (s : State) : (s.exitDebugState).auth = s.auth := rfl
@[simp] theorem State.exitDebugState_earlierAuth (s : State) : (s.exitDebugState).earlierAuth = s.earlierAuth := rfl
@[simp] theorem State.exitDebugState_lateControls (s : State) :
    (s.exitDebugState).lateControls = s.lateControls := rfl
@[simp] theorem State.exitDebugState_env (s : State) : (s.exitDebugState).env = s.env := rfl
@[simp] theorem State.exitDebugState_acrReset (s : State) : (s.exitDebugState).acrReset = s.acrReset := rfl
@[simp] theorem State.exitDebugState_response (s : State) : (s.exitDebugState).response = s.response := rfl
@[simp] theorem State.exitDebugState_inputs (s : State) : (s.exitDebugState).inputs = s.inputs := rfl
@[simp] theorem State.exitDebugState_draws (s : State) : (s.exitDebugState).draws = s.draws := rfl

theorem State.enterDebugState_halted (s : State) (r : HaltReason) : (s.enterDebugState r).hal.halted = true := by
  cases r <;> rfl

theorem State.exitDebugState_halted (s : State) : s.exitDebugState.hal.halted = false := rfl

/-! ### The register arrays -/

@[simp] theorem State.bvr_setBvr_same (s : State) (n : Index) (v : Dword) : (s.setBvr n v).bvr n = v := by
  simp [State.bvr, State.setBvr]

theorem State.bvr_setBvr_ne (s : State) (n m : Index) (v : Dword) (h : m ≠ n) : (s.setBvr n v).bvr m = s.bvr m := by
  have : n.toNat ≠ m.toNat := fun e => h (BitVec.eq_of_toNat_eq e.symm)
  simp [State.bvr, State.setBvr, this]

@[simp] theorem State.bcr_setBcr_same (s : State) (n : Index) (v : Dword) : (s.setBcr n v).bcr n = v := by
  simp [State.bcr, State.setBcr]

theorem State.bcr_setBcr_ne (s : State) (n m : Index) (v : Dword) (h : m ≠ n) : (s.setBcr n v).bcr m = s.bcr m := by
  have : n.toNat ≠ m.toNat := fun e => h (BitVec.eq_of_toNat_eq e.symm)
  simp [State.bcr, State.setBcr, this]

@[simp] theorem State.wvr_setWvr_same (s : State) (n : Index) (v : Dword) : (s.setWvr n v).wvr n = v := by
  simp [State.wvr, State.setWvr]

theorem State.wvr_setWvr_ne (s : State) (n m : Index) (v : Dword) (h : m ≠ n) : (s.setWvr n v).wvr m = s.wvr m := by
  have : n.toNat ≠ m.toNat := fun e => h (BitVec.eq_of_toNat_eq e.symm)
  simp [State.wvr, State.setWvr, this]

@[simp] theorem State.wcr_setWcr_same (s : State) (n : Index) (v : Dword) : (s.setWcr n v).wcr n = v := by
  simp [State.wcr, State.setWcr]

theorem State.wcr_setWcr_ne (s : State) (n m : Index) (v : Dword) (h : m ≠ n) : (s.setWcr n v).wcr m = s.wcr m := by
  have : n.toNat ≠ m.toNat := fun e => h (BitVec.eq_of_toNat_eq e.symm)
  simp [State.wcr, State.setWcr, this]

/-! ### The reset entries: what they leave alone -/

@[simp] theorem State.coldEntries_cfg (s : State) : s.coldEntries.cfg = s.cfg := by simp only [State.coldEntries]
@[simp] theorem State.coldEntries_pe (s : State) : s.coldEntries.pe = s.pe := by simp only [State.coldEntries]
@[simp] theorem State.coldEntries_sampleAddr (s : State) : s.coldEntries.sampleAddr = s.sampleAddr := by simp only [State.coldEntries]
@[simp] theorem State.coldEntries_earlierContexts (s : State) : s.coldEntries.earlierContexts = s.earlierContexts := by simp only [State.coldEntries]
@[simp] theorem State.coldEntries_auth (s : State) : s.coldEntries.auth = s.auth := by simp only [State.coldEntries]
@[simp] theorem State.coldEntries_earlierAuth (s : State) : s.coldEntries.earlierAuth = s.earlierAuth := by simp only [State.coldEntries]
@[simp] theorem State.coldEntries_lateControls (s : State) :
    s.coldEntries.lateControls = s.lateControls := by simp only [State.coldEntries]
@[simp] theorem State.coldEntries_env (s : State) : s.coldEntries.env = s.env := by simp only [State.coldEntries]
@[simp] theorem State.coldEntries_response (s : State) : s.coldEntries.response = s.response := by simp only [State.coldEntries]
@[simp] theorem State.coldEntries_inputs (s : State) : s.coldEntries.inputs = s.inputs := by simp only [State.coldEntries]
@[simp] theorem State.coldEntries_draws (s : State) : s.coldEntries.draws = s.draws := by simp only [State.coldEntries]
@[simp] theorem State.coldEntries_power (s : State) : s.coldEntries.power = s.power := by simp only [State.coldEntries]

@[simp] theorem State.warmEntries_cfg (s : State) : s.warmEntries.cfg = s.cfg := by simp only [State.warmEntries]
@[simp] theorem State.warmEntries_pe (s : State) : s.warmEntries.pe = s.pe := by simp only [State.warmEntries]
@[simp] theorem State.warmEntries_sampleAddr (s : State) : s.warmEntries.sampleAddr = s.sampleAddr := by simp only [State.warmEntries]
@[simp] theorem State.warmEntries_earlierContexts (s : State) : s.warmEntries.earlierContexts = s.earlierContexts := by simp only [State.warmEntries]
@[simp] theorem State.warmEntries_auth (s : State) : s.warmEntries.auth = s.auth := by simp only [State.warmEntries]
@[simp] theorem State.warmEntries_earlierAuth (s : State) : s.warmEntries.earlierAuth = s.earlierAuth := by simp only [State.warmEntries]
@[simp] theorem State.warmEntries_lateControls (s : State) :
    s.warmEntries.lateControls = [] := by simp only [State.warmEntries]
@[simp] theorem State.warmEntries_env (s : State) : s.warmEntries.env = s.env := by simp only [State.warmEntries]
@[simp] theorem State.warmEntries_response (s : State) : s.warmEntries.response = s.response := by simp only [State.warmEntries]
@[simp] theorem State.warmEntries_inputs (s : State) : s.warmEntries.inputs = s.inputs := by simp only [State.warmEntries]
@[simp] theorem State.warmEntries_draws (s : State) : s.warmEntries.draws = s.draws := by simp only [State.warmEntries]
@[simp] theorem State.warmEntries_regs (s : State) : s.warmEntries.regs = s.regs := by simp only [State.warmEntries]
@[simp] theorem State.warmEntries_dcc (s : State) : s.warmEntries.dcc = s.dcc := by simp only [State.warmEntries]
@[simp] theorem State.warmEntries_lock (s : State) : s.warmEntries.lock = s.lock := by simp only [State.warmEntries]
@[simp] theorem State.warmEntries_acrReset (s : State) : s.warmEntries.acrReset = s.acrReset := by simp only [State.warmEntries]

end Sys2Proof.Machine
end

