-- ==== Sys2Proof/Laws/Access.lean ====
section
/-!
SUPPORT. What the shared access operations of Machine/Ops.lean can do, said once for each: the ladders, the ERROR response,
absent registers, EDACR; and the ERROR clauses in the terms of Safety.lean.
-/

namespace Sys2Proof.Machine

open Sys2Proof.Safety

/-! ## The ERROR clauses -/

theorem coreOff_holds_iff (s : State) (ad : AddrDesc) : ErrorClause.coreOff.holds s ad = false ↔ Reachable s := by
  cases hd : s.cfg.dbg.doPD <;> cases hp : s.powered <;> simp [ErrorClause.holds, Reachable, hd, hp]

theorem core_holds_iff (s : State) (ad : AddrDesc) : ErrorClause.core.holds s ad = false ↔ CoreOn s := by
  cases hl : s.doubleLock <;> cases hp : s.powered <;> simp [ErrorClause.holds, CoreOn, hl, hp]

theorem locked_holds_iff (s : State) (ad : AddrDesc) : ErrorClause.locked.holds s ad = false ↔ Unlocked s := by
  cases hl : s.doubleLock <;> cases hp : s.powered <;> cases ho : s.osLock <;>
    simp [ErrorClause.holds, Unlocked, CoreOn, hl, hp, ho]

theorem guarded_holds_iff (s : State) (ad : AddrDesc) :
    ErrorClause.guarded.holds s ad = false ↔ Permitted s ad := by
  cases hl : s.doubleLock <;> cases hp : s.powered <;> cases ho : s.osLock <;> cases ha : s.allowDebug ad <;>
    simp [ErrorClause.holds, Permitted, Unlocked, CoreOn, hl, hp, ho, ha]

/-! ## The ERROR response -/

/-- The ERROR of a clause that does not name AllowExternalDebugAccess() changes nothing. -/
theorem raiseError_plain (s : State) (ad : AddrDesc) (e : ErrorClause) (h : e.namesAllow = false) :
    s.raiseError ad e = { s with response := .error } := by
  have : e.soleCauseIsAllow s ad = false := by simp [ErrorClause.soleCauseIsAllow, h]
  simp [State.raiseError, this]

/-- The ERROR of an access that other terms refuse too changes nothing. -/
theorem raiseError_guarded_locked (s : State) (ad : AddrDesc) (h : ¬Unlocked s) :
    s.raiseError ad .guarded = { s with response := .error } := by
  have : ErrorClause.guarded.soleCauseIsAllow s ad = false := by
    revert h
    cases hl : s.doubleLock <;> cases hp : s.powered <;> cases ho : s.osLock <;>
      simp [ErrorClause.soleCauseIsAllow, ErrorClause.namesOSLock, Unlocked, CoreOn, hl, hp, ho]
  simp [State.raiseError, this]

/-- The ERROR of an access that only the access-disable control refuses sets EDPRSR.SDAD. -/
theorem raiseError_guarded_prohibited (s : State) (ad : AddrDesc) (h : Unlocked s) (ha : s.allowDebug ad = false) :
    s.raiseError ad .guarded = { s with response := .error, sticky := { s.sticky with sdad := true } } := by
  have : ErrorClause.guarded.soleCauseIsAllow s ad = true := by
    simp [ErrorClause.soleCauseIsAllow, ErrorClause.namesOSLock, ErrorClause.namesAllow, h.1.1, h.1.2, h.2, ha]
  simp [State.raiseError, this]

/-! ## The ladders -/

theorem readReg_error {s : State} {ad : AddrDesc} {e : ErrorClause} (k : AccessKind) (f : State → State)
    (h : e.holds s ad = true) : readReg e k ad s f = s.raiseError ad e := by
  simp [readReg, ladder, h, readBy]

theorem writeReg_error {s : State} {ad : AddrDesc} {e : ErrorClause} (k : AccessKind) (f : State → State)
    (h : e.holds s ad = true) : writeReg e k ad s f = s.raiseError ad e := by
  simp [writeReg, ladder, h, writeBy]

theorem readReg_readOnly {s : State} {ad : AddrDesc} {e : ErrorClause} (f : State → State)
    (h : e.holds s ad = false) : readReg e .readOnly ad s f = f s := by
  simp [readReg, ladder, h, readBy]

theorem readReg_readWrite {s : State} {ad : AddrDesc} {e : ErrorClause} (f : State → State)
    (h : e.holds s ad = false) : readReg e .readWrite ad s f = f s := by
  cases hl : s.softLock ad <;> simp [readReg, ladder, h, hl, readBy]

theorem readReg_readWriteUnlocked {s : State} {ad : AddrDesc} {e : ErrorClause} (f : State → State)
    (h : e.holds s ad = false) : readReg e .readWriteUnlocked ad s f = f s := by
  simp [readReg, ladder, h, readBy]

theorem readReg_writeOnly {s : State} {ad : AddrDesc} {e : ErrorClause} (f : State → State)
    (h : e.holds s ad = false) : readReg e .writeOnly ad s f = s.okRead (s.free32 .readWord) := by
  cases hl : s.softLock ad <;> simp [readReg, ladder, h, hl, readBy]

theorem readReg_writeOnlyUnlocked {s : State} {ad : AddrDesc} {e : ErrorClause} (f : State → State)
    (h : e.holds s ad = false) : readReg e .writeOnlyUnlocked ad s f = s.okRead (s.free32 .readWord) := by
  simp [readReg, ladder, h, readBy]

theorem writeReg_readOnly {s : State} {ad : AddrDesc} {e : ErrorClause} (f : State → State)
    (h : e.holds s ad = false) : writeReg e .readOnly ad s f = s.okWrite := by
  simp [writeReg, ladder, h, writeBy]

theorem writeReg_readWrite {s : State} {ad : AddrDesc} {e : ErrorClause} (f : State → State)
    (h : e.holds s ad = false) (hl : s.softLock ad = false) :
    writeReg e .readWrite ad s f = (f s).okWrite := by
  simp [writeReg, ladder, h, hl, writeBy]

theorem writeReg_readWrite_locked {s : State} {ad : AddrDesc} {e : ErrorClause} (f : State → State)
    (h : e.holds s ad = false) (hl : s.softLock ad = true) : writeReg e .readWrite ad s f = s.okWrite := by
  simp [writeReg, ladder, h, hl, writeBy]

theorem writeReg_readWriteUnlocked {s : State} {ad : AddrDesc} {e : ErrorClause} (f : State → State)
    (h : e.holds s ad = false) : writeReg e .readWriteUnlocked ad s f = (f s).okWrite := by
  simp [writeReg, ladder, h, writeBy]

theorem writeReg_writeOnly {s : State} {ad : AddrDesc} {e : ErrorClause} (f : State → State)
    (h : e.holds s ad = false) (hl : s.softLock ad = false) :
    writeReg e .writeOnly ad s f = (f s).okWrite := by
  simp [writeReg, ladder, h, hl, writeBy]

theorem writeReg_writeOnly_locked {s : State} {ad : AddrDesc} {e : ErrorClause} (f : State → State)
    (h : e.holds s ad = false) (hl : s.softLock ad = true) : writeReg e .writeOnly ad s f = s.okWrite := by
  simp [writeReg, ladder, h, hl, writeBy]

theorem writeReg_writeOnlyUnlocked {s : State} {ad : AddrDesc} {e : ErrorClause} (f : State → State)
    (h : e.holds s ad = false) : writeReg e .writeOnlyUnlocked ad s f = (f s).okWrite := by
  simp [writeReg, ladder, h, writeBy]

/-- Everything a read under a ladder can do. -/
theorem readReg_cases (e : ErrorClause) (k : AccessKind) (ad : AddrDesc) (s : State) (f : State → State) :
    (e.holds s ad = true ∧ readReg e k ad s f = s.raiseError ad e) ∨
      (e.holds s ad = false ∧ (readReg e k ad s f = f s ∨ readReg e k ad s f = s.okRead (s.free32 .readWord))) := by
  cases h : e.holds s ad
  · refine .inr ⟨rfl, ?_⟩
    cases k <;> cases hl : s.softLock ad <;> simp [readReg, ladder, h, hl, readBy]
  · exact .inl ⟨rfl, readReg_error k f h⟩

/-- Everything a write under a ladder can do. -/
theorem writeReg_cases (e : ErrorClause) (k : AccessKind) (ad : AddrDesc) (s : State) (f : State → State) :
    (e.holds s ad = true ∧ writeReg e k ad s f = s.raiseError ad e) ∨
      (e.holds s ad = false ∧ (writeReg e k ad s f = (f s).okWrite ∨ writeReg e k ad s f = s.okWrite)) := by
  cases h : e.holds s ad
  · refine .inr ⟨rfl, ?_⟩
    cases k <;> cases hl : s.softLock ad <;> simp [writeReg, ladder, h, hl, writeBy]
  · exact .inl ⟨rfl, writeReg_error k f h⟩

/-- Everything a read can do after a register-level result. -/
theorem readBy_cases (r : AccessResult) (e : ErrorClause) (ad : AddrDesc) (s : State) (k : State → State) :
    readBy r e ad s k = s.raiseError ad e ∨ readBy r e ad s k = k s ∨
      readBy r e ad s k = s.okRead (s.free32 .readWord) := by
  cases r <;> simp [readBy]

/-- Everything a write can do after a register-level result. -/
theorem writeBy_cases (r : AccessResult) (e : ErrorClause) (ad : AddrDesc) (s : State) (k : State → State) :
    writeBy r e ad s k = s.raiseError ad e ∨ writeBy r e ad s k = (k s).okWrite ∨ writeBy r e ad s k = s.okWrite := by
  cases r <;> simp [writeBy]

/-! ## Shapes of an outcome -/

theorem not_locked {s : State} {ad} (h : ¬ Unlocked s) : ErrorClause.locked.holds s ad = true := by
  cases hh : ErrorClause.locked.holds s ad
  · exact absurd ((locked_holds_iff s ad).1 hh) h
  · rfl
theorem not_coreOff {s : State} {ad} (h : ¬ Reachable s) : ErrorClause.coreOff.holds s ad = true := by
  cases hh : ErrorClause.coreOff.holds s ad
  · exact absurd ((coreOff_holds_iff s ad).1 hh) h
  · rfl
theorem not_core {s : State} {ad} (h : ¬ CoreOn s) : ErrorClause.core.holds s ad = true := by
  cases hh : ErrorClause.core.holds s ad
  · exact absurd ((core_holds_iff s ad).1 hh) h
  · rfl
theorem not_guarded {s : State} {ad} (h : ¬ Permitted s ad) : ErrorClause.guarded.holds s ad = true := by
  cases hh : ErrorClause.guarded.holds s ad
  · exact absurd ((guarded_holds_iff s ad).1 hh) h
  · rfl

/-- A read without side effect under the clause `locked`. -/
theorem lockedRead_of {i : Instr} {s : State} {v : Word} {k : AccessKind} {f : State → Word}
    (h : exec i s = .next (readValue .locked k i.ad s f))
    (hk : k = .readOnly ∨ k = .readWrite ∨ k = .readWriteUnlocked) (hv : f s = v) : LockedRead i s v := by
  subst hv
  refine ⟨fun hu => ?_, fun hu => ?_⟩
  · have := (locked_holds_iff s i.ad).2 hu
    rw [h, readValue]
    rcases hk with rfl | rfl | rfl
    · rw [readReg_readOnly _ this]; rfl
    · rw [readReg_readWrite _ this]; rfl
    · rw [readReg_readWriteUnlocked _ this]; rfl
  · rw [h, readValue, readReg_error _ _ (not_locked hu), raiseError_plain _ _ _ rfl]

/-- A write under the clause `locked`. -/
theorem lockedWrite_of {i : Instr} {s t : State} {k : AccessKind} {f : State → State}
    (h : exec i s = .next (writeReg .locked k i.ad s f)) (hk : k = .readWrite ∨ k = .writeOnly)
    (hf : f s = t) : LockedWrite i s t := by
  subst hf
  refine ⟨fun hu hl => ?_, fun hu hl => ?_, fun hu => ?_⟩
  · have := (locked_holds_iff s i.ad).2 hu
    rw [h]
    rcases hk with rfl | rfl
    · rw [writeReg_readWrite _ this hl]; rfl
    · rw [writeReg_writeOnly _ this hl]; rfl
  · have := (locked_holds_iff s i.ad).2 hu
    rw [h]
    rcases hk with rfl | rfl
    · rw [writeReg_readWrite_locked _ this hl]; rfl
    · rw [writeReg_writeOnly_locked _ this hl]; rfl
  · rw [h, writeReg_error _ _ (not_locked hu), raiseError_plain _ _ _ rfl]

/-- The errors of a read under the clause `guarded`. -/
theorem guardedErrors_read {i : Instr} {s : State} {k : AccessKind} {f : State → State}
    (h : exec i s = .next (readReg .guarded k i.ad s f)) : GuardedErrors i s := by
  refine ⟨fun hu ha => ?_, fun hu => ?_⟩
  · rw [h, readReg_error _ _ (not_guarded (by simp [Permitted, ha])), raiseError_guarded_prohibited _ _ hu ha]
  · rw [h, readReg_error _ _ (not_guarded (fun hp => hu hp.1)), raiseError_guarded_locked _ _ hu]

/-- The errors of a write under the clause `guarded`. -/
theorem guardedErrors_write {i : Instr} {s : State} {k : AccessKind} {f : State → State}
    (h : exec i s = .next (writeReg .guarded k i.ad s f)) : GuardedErrors i s := by
  refine ⟨fun hu ha => ?_, fun hu => ?_⟩
  · rw [h, writeReg_error _ _ (not_guarded (by simp [Permitted, ha])), raiseError_guarded_prohibited _ _ hu ha]
  · rw [h, writeReg_error _ _ (not_guarded (fun hp => hu hp.1)), raiseError_guarded_locked _ _ hu]

/-- A read under the clause `guarded` that the clause admits. -/
theorem guarded_read {i : Instr} {s : State} {f : State → State}
    (h : exec i s = .next (readReg .guarded .readWrite i.ad s f)) (hp : Permitted s i.ad) :
    exec i s = .next (f s) := by
  rw [h, readReg_readWrite _ ((guarded_holds_iff _ _).2 hp)]

/-- A write under the clause `guarded` that nothing stops. -/
theorem guarded_write {i : Instr} {s : State} {f : State → State}
    (h : exec i s = .next (writeReg .guarded .readWrite i.ad s f)) (hp : Permitted s i.ad)
    (hl : s.softLock i.ad = false) : exec i s = .next (f s).okWrite := by
  rw [h, writeReg_readWrite _ ((guarded_holds_iff _ _).2 hp) hl]

/-- A write under the clause `guarded`, ignored under the Software Lock. -/
theorem guarded_write_locked {i : Instr} {s : State} {f : State → State}
    (h : exec i s = .next (writeReg .guarded .readWrite i.ad s f)) (hp : Permitted s i.ad)
    (hl : s.softLock i.ad = true) : exec i s = accepts s := by
  rw [h, writeReg_readWrite_locked _ ((guarded_holds_iff _ _).2 hp) hl]; rfl

/-! ## Absent registers -/

/-- An absent register answers RES0, or, where that may be, ERROR. -/
theorem absent_cases (may : Bool) (e : ErrorClause) (ad : AddrDesc) (s : State) (res0 : State → State) :
    absent may e ad s res0 = res0 s ∨ (may = true ∧ absent may e ad s res0 = s.raiseError ad e) := by
  cases may
  · exact .inl (by simp [absent])
  · cases h : s.flip .absentError
    · exact .inl (by simp [absent, h])
    · exact .inr ⟨rfl, by simp [absent, h]⟩

/-- Where ERROR is not among its answers, an absent register answers RES0. -/
theorem absent_res0 (e : ErrorClause) (ad : AddrDesc) (s : State) (res0 : State → State) :
    absent false e ad s res0 = res0 s := by simp [absent]

/-- All that `readReserved` can do (30_encoding.md R190). -/
theorem readReserved_outcome (ad : AddrDesc) (s : State) :
    (s.cfg.opt.reservedMayError = false ∨ Permitted s ad → Host.Outcome.next (readReserved ad s) = reads s 0) ∧
    (Host.Outcome.next (readReserved ad s) = reads s 0 ∨
      (Host.Outcome.next (readReserved ad s) : Result) ∈ ([errors s] : List Result)) := by
  have h := absent_cases (s.cfg.opt.reservedMayError && ErrorClause.guarded.holds s ad) .coreOff ad s fun t => t.okRead 0
  refine ⟨fun ha => ?_, ?_⟩
  · have hm : (s.cfg.opt.reservedMayError && ErrorClause.guarded.holds s ad) = false := by
      rcases ha with ha | ha
      · simp [ha]
      · simp [(guarded_holds_iff s ad).2 ha]
    unfold readReserved
    rw [hm] at h ⊢
    rcases h with h | h
    · rw [h]; rfl
    · exact absurd h.1 (by decide)
  · unfold readReserved
    rcases h with h | h
    · left; rw [h]; rfl
    · right; rw [h.2]
      simp [State.raiseError, ErrorClause.soleCauseIsAllow, ErrorClause.namesAllow]

/-- All that `writeReserved` can do (30_encoding.md R190). -/
theorem writeReserved_outcome (ad : AddrDesc) (s : State) :
    (s.cfg.opt.reservedMayError = false ∨ Permitted s ad → Host.Outcome.next (writeReserved ad s) = accepts s) ∧
    (Host.Outcome.next (writeReserved ad s) = accepts s ∨
      (Host.Outcome.next (writeReserved ad s) : Result) ∈ ([errors s] : List Result)) := by
  have h := absent_cases (s.cfg.opt.reservedMayError && ErrorClause.guarded.holds s ad) .coreOff ad s fun t => t.okWrite
  refine ⟨fun ha => ?_, ?_⟩
  · have hm : (s.cfg.opt.reservedMayError && ErrorClause.guarded.holds s ad) = false := by
      rcases ha with ha | ha
      · simp [ha]
      · simp [(guarded_holds_iff s ad).2 ha]
    unfold writeReserved
    rw [hm] at h ⊢
    rcases h with h | h
    · rw [h]; rfl
    · exact absurd h.1 (by decide)
  · unfold writeReserved
    rcases h with h | h
    · left; rw [h]; rfl
    · right; rw [h.2]
      simp [State.raiseError, ErrorClause.soleCauseIsAllow, ErrorClause.namesAllow]

/-- All that `readNotPresent` can do (42 R381). -/
theorem readNotPresent_outcome (ad : AddrDesc) (s : State) :
    (Unlocked s → Host.Outcome.next (readNotPresent ad s) = reads s 0) ∧
    (Host.Outcome.next (readNotPresent ad s) = reads s 0 ∨
      (Host.Outcome.next (readNotPresent ad s) : Result) ∈ ([errors s] : List Result)) := by
  have h := absent_cases (ErrorClause.locked.holds s ad) .locked ad s fun t => t.okRead 0
  refine ⟨fun ha => ?_, ?_⟩
  · have hm : ErrorClause.locked.holds s ad = false := (locked_holds_iff s ad).2 ha
    unfold readNotPresent
    rw [hm] at h ⊢
    rcases h with h | h
    · rw [h]; rfl
    · exact absurd h.1 (by decide)
  · unfold readNotPresent
    rcases h with h | h
    · left; rw [h]; rfl
    · right; rw [h.2]
      simp [State.raiseError, ErrorClause.soleCauseIsAllow, ErrorClause.namesAllow]

/-- All that `writeNotPresent` can do (42 R381). -/
theorem writeNotPresent_outcome (ad : AddrDesc) (s : State) :
    (Unlocked s → Host.Outcome.next (writeNotPresent ad s) = accepts s) ∧
    (Host.Outcome.next (writeNotPresent ad s) = accepts s ∨
      (Host.Outcome.next (writeNotPresent ad s) : Result) ∈ ([errors s] : List Result)) := by
  have h := absent_cases (ErrorClause.locked.holds s ad) .locked ad s fun t => t.okWrite
  refine ⟨fun ha => ?_, ?_⟩
  · have hm : ErrorClause.locked.holds s ad = false := (locked_holds_iff s ad).2 ha
    unfold writeNotPresent
    rw [hm] at h ⊢
    rcases h with h | h
    · rw [h]; rfl
    · exact absurd h.1 (by decide)
  · unfold writeNotPresent
    rcases h with h | h
    · left; rw [h]; rfl
    · right; rw [h.2]
      simp [State.raiseError, ErrorClause.soleCauseIsAllow, ErrorClause.namesAllow]

/-- All that `readUnimplemented` can do (40 R232). -/
theorem readUnimplemented_outcome (ad : AddrDesc) (s : State) :
    (Permitted s ad → Host.Outcome.next (readUnimplemented ad s) = reads s 0) ∧
    (Host.Outcome.next (readUnimplemented ad s) = reads s 0 ∨
      (Host.Outcome.next (readUnimplemented ad s) : Result) ∈ ([errors s, sdadErrors s] : List Result)) := by
  have h := absent_cases (ErrorClause.guarded.holds s ad) .guarded ad s fun t => t.okRead 0
  refine ⟨fun ha => ?_, ?_⟩
  · have hm : ErrorClause.guarded.holds s ad = false := (guarded_holds_iff s ad).2 ha
    unfold readUnimplemented
    rw [hm] at h ⊢
    rcases h with h | h
    · rw [h]; rfl
    · exact absurd h.1 (by decide)
  · unfold readUnimplemented
    rcases h with h | h
    · left; rw [h]; rfl
    · right; rw [h.2]
      cases hc : ErrorClause.guarded.soleCauseIsAllow s ad <;> simp [State.raiseError, hc]

/-- All that `writeUnimplemented` can do (40 R232). -/
theorem writeUnimplemented_outcome (ad : AddrDesc) (s : State) :
    (Permitted s ad → Host.Outcome.next (writeUnimplemented ad s) = accepts s) ∧
    (Host.Outcome.next (writeUnimplemented ad s) = accepts s ∨
      (Host.Outcome.next (writeUnimplemented ad s) : Result) ∈ ([errors s, sdadErrors s] : List Result)) := by
  have h := absent_cases (ErrorClause.guarded.holds s ad) .guarded ad s fun t => t.okWrite
  refine ⟨fun ha => ?_, ?_⟩
  · have hm : ErrorClause.guarded.holds s ad = false := (guarded_holds_iff s ad).2 ha
    unfold writeUnimplemented
    rw [hm] at h ⊢
    rcases h with h | h
    · rw [h]; rfl
    · exact absurd h.1 (by decide)
  · unfold writeUnimplemented
    rcases h with h | h
    · left; rw [h]; rfl
    · right; rw [h.2]
      cases hc : ErrorClause.guarded.soleCauseIsAllow s ad <;> simp [State.raiseError, hc]

/-! ## EDACR -/

/-- With no lock set and the Core powered, EDACR is read and written by its ladder alone. -/
theorem acrAccessible_of_unlocked {s : State} (h : Unlocked s) (ad : AddrDesc) : s.acrAccessible ad = 0 := by
  simp [State.acrAccessible, h.1.1, h.2, maskIf]

/-- A read that must reach preserved bits completes, changes nothing and shows these bits (42 R360). -/
theorem readEdacr_of_reached {s : State} {ad : AddrDesc} (h : s.acrAccessible ad ≠ 0) :
    ∃ v, readEdacr ad s = s.okRead v ∧
      ∀ k, (s.acrAccessible ad).getLsbD k = true → v.getLsbD k = s.ctl.edacr.getLsbD k := by
  refine ⟨_, if_neg h, fun k hk => ?_⟩
  rw [merge_getLsbD, hk, if_pos rfl]

/-- A write that must reach preserved bits completes, stores these bits, all others or none of them, and changes nothing
else (42 R360). -/
theorem writeEdacr_of_reached {s : State} {ad : AddrDesc} (d : Word) (h : s.acrAccessible ad ≠ 0) :
    ∃ w, writeEdacr d ad s = State.okWrite { s with ctl := { s.ctl with edacr := w } } ∧
      (∀ k, (s.acrAccessible ad).getLsbD k = true → w.getLsbD k = d.getLsbD k) ∧
      (w = d ∨ ∀ k, (s.acrAccessible ad).getLsbD k = false → w.getLsbD k = s.ctl.edacr.getLsbD k) := by
  refine ⟨_, if_neg h, fun k hk => by rw [merge_getLsbD, hk, if_pos rfl], ?_⟩
  cases writeStores (ladderImpdefRW s ad .edacr)
  · exact .inr fun k hk => by rw [merge_getLsbD, hk]; rfl
  · exact .inl (merge_self _ d)

/-! ## The step -/

/-- Everything a step can do, when it goes on. -/
theorem step_cases {s t : State} (h : step s = .next t) :
    s.voided = none ∧
      ((s.inputs = [] ∧ t = s) ∨
        (∃ a rest, s.inputs = .agent a :: rest ∧ t = agentStep a (s.consume rest)) ∨
        (∃ bytes rest i, s.inputs = .access bytes :: rest ∧ fetch s.cfg bytes = .ok i ∧
          ∃ u, exec i (s.consume rest) = .next u ∧ t = (s.consume rest).remember i u)) := by
  simp only [step] at h
  split at h
  · cases h
  · refine ⟨‹_›, ?_⟩
    split at h
    · exact .inl ⟨‹_›, (Host.Outcome.next.inj h).symm⟩
    · exact .inr (.inl ⟨_, _, ‹_›, (Host.Outcome.next.inj h).symm⟩)
    · split at h
      · cases h
      · rename_i bytes rest hi _ i hf
        refine .inr (.inr ⟨bytes, rest, i, hi, hf, ?_⟩)
        cases he : exec i (s.consume rest) <;> simp only [he, State.afterAccess] at h
        · exact ⟨_, rfl, (Host.Outcome.next.inj h).symm⟩
        all_goals cases h

/-- Reading a transaction from its bytes: they decode with nothing left over, and the access is well formed. -/
theorem fetch_eq_ok_iff (c : Config) (bytes : List Byte) (i : Instr) :
    fetch c bytes = .ok i ↔ decode bytes = .ok (i, []) ∧ i.wf c = true := by
  unfold fetch
  split
  · simp_all
  · rename_i j hd
    cases hw : j.wf c
    · simp only [hd]
      constructor
      · intro h; simp at h
      · rintro ⟨h, hi⟩
        cases h
        simp [hw] at hi
    · simp only [hd, if_true]
      constructor
      · intro h; cases h; exact ⟨rfl, hw⟩
      · rintro ⟨h, -⟩; cases h; rfl
  · simp_all

end Sys2Proof.Machine
end

