-- ==== Sys2Proof/Laws/Fields.lean ====
section
/-!
SUPPORT. The field masks of Machine/Operands.lean, bit by bit, against the tables of Safety.lean, which are copied from
the rules of spec/.
-/

namespace Sys2Proof.Machine

open Sys2Proof.Safety

theorem edeccrFields_getLsbD (c : Config) (k : Nat) (h : k < 32) :
    (edeccrFields c).getLsbD k = edeccrField c k := by
  simp only [edeccrFields, Config.haveNonSecureEL2, Config.haveNonSecureEL1, Config.haveSecureEL1, BitVec.getLsbD_or,
    maskIf_getLsbD, maskAt_getLsbD]
  interval_cases k <;> simp [edeccrField]

theorem edecrCoreFields_getLsbD (c : Config) (k : Nat) (h : k < 32) :
    (edecrCoreFields c).getLsbD k = edecrCoreField c k := by
  simp only [edecrCoreFields, BitVec.getLsbD_or, maskIf_getLsbD, maskAt_getLsbD]
  interval_cases k <;> simp [edecrCoreField]

theorem edecrFields_getLsbD (c : Config) (k : Nat) (h : k < 32) :
    (edecrFields c).getLsbD k = edecrField c k := by
  simp only [edecrFields, edecrField, BitVec.getLsbD_or, maskIf_getLsbD, maskAt_getLsbD,
    edecrCoreFields_getLsbD c k h]
  interval_cases k <;> simp

theorem edesrFields_getLsbD (c : Config) (k : Nat) (h : k < 32) :
    (edesrFields c).getLsbD k = edesrField c k := by
  simp only [edesrFields, edesrField, BitVec.getLsbD_or, maskIf_getLsbD, maskAt_getLsbD]
  interval_cases k <;> simp

theorem edscrWritable_getLsbD (c : Config) (k : Nat) (h : k < 32) :
    (edscrWritable c).getLsbD k = edscrField c k := by
  simp only [edscrWritable, edscrField, Config.hasSC2, BitVec.getLsbD_or, maskIf_getLsbD, maskAt_getLsbD]
  interval_cases k <;> simp
  cases c.sys.pcsrv8 <;> cases c.sys.pcsrv8p2 <;> simp

theorem edscr2Fields_getLsbD (c : Config) (k : Nat) (h : k < 32) :
    (edscr2Fields c).getLsbD k = edscr2Field c k := by
  simp only [edscr2Fields, edscr2Field, Config.hasEHBWE, Config.hasTTA, BitVec.getLsbD_or, maskIf_getLsbD, maskAt_getLsbD]
  interval_cases k <;> simp

theorem bcrFields_getLsbD (c : Config) (n : Index) (k : Nat) (h : k < 32) :
    (bcrFields c n).getLsbD k = bcrField c n k := by
  simp only [bcrFields, bcrField, Config.hasBT2, BitVec.getLsbD_or, maskIf_getLsbD, maskAt_getLsbD]
  interval_cases k <;> simp

theorem wcrFields_getLsbD (c : Config) (k : Nat) (h : k < 32) :
    (wcrFields c).getLsbD k = wcrField c k := by
  simp only [wcrFields, wcrField, BitVec.getLsbD_or, maskIf_getLsbD, maskAt_getLsbD]
  interval_cases k <;> simp

theorem vaTop_eq (c : Config) : c.vaTop = topBit c := rfl

theorem ressMask_getLsbD (c : Config) (k : Nat) : (ressMask c).getLsbD k = decide (topBit c < k ∧ k ≤ 63) := by
  rw [ressMask, vaTop_eq, dmask_getLsbD _ _ _ (by omega)]
  apply decide_eq_decide.2; omega

theorem topBit_lt (c : Config) : topBit c < 64 := by simp only [topBit]; split <;> [omega; split <;> omega]

theorem bvrLayout_fields_getLsbD (c : Config) (wide : Bool) (bt : BitVec 4) (k : Nat) (h : k < 64) :
    ((bvrLayout c bt).fields c wide).getLsbD k = bvrField c wide bt k := by
  have codes : bt = 0 ∨ bt = 1 ∨ bt = 2 ∨ bt = 3 ∨ bt = 4 ∨ bt = 5 ∨ bt = 6 ∨ bt = 7 ∨ bt = 8 ∨ bt = 9 ∨ bt = 10 ∨
      bt = 11 ∨ bt = 12 ∨ bt = 13 ∨ bt = 14 ∨ bt = 15 := by revert bt; decide
  have t := topBit_lt c
  rcases codes with rfl | rfl | rfl | rfl | rfl | rfl | rfl | rfl | rfl | rfl | rfl | rfl | rfl | rfl | rfl | rfl <;>
    cases h2 : c.pe.haveEL2 <;> cases h1 : c.dbg.debugv8p1 <;>
    simp only [bvrLayout, bvrField, isAddressType, h1, h2] <;>
    simp [BvrLayout.fields, -BitVec.getLsbD_eq_getElem, dmask_getLsbD, maskIf_getLsbD, vaTop_eq, t] <;>
    (try (cases wide <;> simp <;> apply Bool.eq_iff_iff.2 <;> simp <;> omega)) <;>
    (try (apply Bool.eq_iff_iff.2 <;> simp <;> omega))

/-- A layout has RESS bits exactly where BT selects an address. -/
theorem bvrLayout_ress (c : Config) (bt : BitVec 4) :
    (bvrLayout c bt).ress c = if isAddressType bt then ressMask c else 0 := by
  have codes : bt = 0 ∨ bt = 1 ∨ bt = 2 ∨ bt = 3 ∨ bt = 4 ∨ bt = 5 ∨ bt = 6 ∨ bt = 7 ∨ bt = 8 ∨ bt = 9 ∨ bt = 10 ∨
      bt = 11 ∨ bt = 12 ∨ bt = 13 ∨ bt = 14 ∨ bt = 15 := by revert bt; decide
  rcases codes with rfl | rfl | rfl | rfl | rfl | rfl | rfl | rfl | rfl | rfl | rfl | rfl | rfl | rfl | rfl | rfl <;>
    cases h2 : c.pe.haveEL2 <;> cases h1 : c.dbg.debugv8p1 <;>
    simp [bvrLayout, isAddressType, BvrLayout.ress, h1, h2]

end Sys2Proof.Machine
end

