-- ==== Sys2Proof/Laws/Agent.lean ====
section
/-!
SUPPORT. What the steps of Machine/Agent.lean can do, said once for each: their enabling conditions in the terms of
Safety.lean, and their outcomes.
-/

namespace Sys2Proof.Machine

open Sys2Proof.Safety

/-! ## Enabling conditions -/

theorem peActive_iff (s : State) :
    s.peActive = true ↔ s.power.core = .powered ∧ s.power.inReset = false := by
  simp [State.peActive]

/-- EDESR.{SS, RC, OSUC} are always fields. -/
theorem isPending_iff (s : State) (f : PendingEvent) :
    s.isPending f = true ↔ edesrField s.cfg f.bit = true ∧ s.ctl.edesr.getLsbD f.bit = true := by
  have bound : f.bit < 32 := by cases f <;> decide
  rw [State.isPending, edesrFields_getLsbD _ _ bound, Bool.and_eq_true]

theorem resetCatchFirst_iff (s : State) : s.resetCatchFirst = true ↔ ResetCatchFirst s := by
  have pending : s.isPending .rc = true ↔ s.ctl.edesr.getLsbD 1 = true := by
    rw [isPending_iff]; simp [edesrField, PendingEvent.bit]
  simp only [State.resetCatchFirst, Bool.and_eq_true, Bool.not_eq_true', pending, and_assoc]

theorem executing_iff (s : State) : s.executing = true ↔ Executes s := by
  have := resetCatchFirst_iff s
  cases h : s.resetCatchFirst <;>
    simp_all only [State.executing, Bool.and_eq_true, Bool.not_true, Bool.not_false, peActive_iff, Executes] <;> tauto

theorem canHalt_iff (s : State) (r : HaltReason) :
    s.canHalt r = true ↔ s.power.core = .powered ∧ s.power.inReset = false ∧ s.hal.halted = false ∧
      s.env.haltingAllowed = true ∧ (¬ResetCatchFirst s ∨ r = .resetCatch) := by
  rw [← resetCatchFirst_iff]
  cases h : s.resetCatchFirst <;> simp [State.canHalt, State.peActive, h, and_assoc]

theorem isLegal_iff (c : Config) (p : PeView) : p.isLegal c = true ↔ LegalView c p := by
  cases hs : p.ss <;> simp [PeView.isLegal, LegalView, hs, imp_iff_not_or, or_comm, and_assoc]

theorem auth_isLegal_iff (c : Config) (a : Auth) :
    a.isLegal c = true ↔ (c.dbg.debugv8p4 = true → c.pe.nonSecureImpl = true → a.noninvasive = true) := by
  cases h : c.dbg.debugv8p4 <;> cases h' : c.pe.nonSecureImpl <;> simp [Auth.isLegal, h, h']

/-! ## The authentication the PE acts on -/

/-- What the PE acts on is the present authentication, or one since the last context synchronization event. -/
theorem authSeen_mem (s : State) : s.authSeen ∈ s.auth :: s.earlierAuth := by
  unfold State.authSeen
  split
  · exact List.mem_cons_self
  · rename_i a rest h
    rw [h]
    have bound : (s.free64 .auth).toNat % (s.auth :: a :: rest).length < (s.auth :: a :: rest).length :=
      Nat.mod_lt _ (by simp)
    rw [List.getD_eq_getElem _ _ bound]
    exact List.getElem_mem _

/-- With no change since the last context synchronization event, it is the present one. -/
theorem authSeen_of_settled {s : State} (h : s.earlierAuth = []) : s.authSeen = s.auth := by simp [State.authSeen, h]

/-! ## The controls the PE sees -/

theorem mem_visible_iff (s : State) (r : ControlReg) (v : Dword) :
    v ∈ s.visible r ↔ v = s.control r ∨ (r, v) ∈ s.lateControls := by
  simp only [State.visible, List.mem_cons, List.mem_map, List.mem_filter, decide_eq_true_eq]
  constructor
  · rintro (h | ⟨⟨c, w⟩, ⟨h, rfl⟩, rfl⟩)
    · exact .inl h
    · exact .inr h
  · rintro (h | h)
    · exact .inl h
    · exact .inr ⟨_, ⟨h, rfl⟩, rfl⟩

/-- What the PE sees of a control is its present value, or one from before the debugger changed it. -/
theorem seenOf_mem (s : State) (r : ControlReg) : s.seenOf r ∈ s.visible r := by
  have bound : (s.free64 (.late r)).toNat % (s.visible r).length < (s.visible r).length :=
    Nat.mod_lt _ (by simp [State.visible])
  rw [State.seenOf, List.getD_eq_getElem _ _ bound]
  exact List.getElem_mem _

theorem someControl_of_visible {s : State} {r : ControlReg} {P : Dword → Prop} (h : ∃ v ∈ s.visible r, P v) :
    SomeControl s r P := by
  obtain ⟨v, hv, hP⟩ := h
  rcases (mem_visible_iff s r v).1 hv with rfl | hm
  · exact .inl hP
  · exact .inr ⟨v, hm, hP⟩

/-- With no change by the debugger kept, the PE sees the controls as they are. -/
theorem seen_of_settled {s : State} (h : s.lateControls = []) : s.seen = s := by simp only [State.seen, h]

/-- Where the PE sees a control late, only the controls differ. -/
theorem seen_frame (s : State) :
    ∃ regs ctl lock, s.seen = { s with regs := regs, ctl := ctl, lock := lock } := by
  unfold State.seen
  split
  · exact ⟨s.regs, s.ctl, s.lock, rfl⟩
  · exact ⟨_, _, _, rfl⟩

theorem loHalf_setWidth (w : Word) : loHalf (w.setWidth 64) = w := by
  apply BitVec.eq_of_getLsbD_eq
  intro i hi
  rw [loHalf_getLsbD, BitVec.getLsbD_setWidth]
  simp [hi, show i < 64 by omega]

/-- Each control the PE sees has one of its visible values. -/
theorem seen_controls (s : State) :
    (∀ n, s.seen.bvr n ∈ s.visible (.bvr n)) ∧ (∀ n, s.seen.bcr n ∈ s.visible (.bcr n)) ∧
    (∀ n, s.seen.wvr n ∈ s.visible (.wvr n)) ∧ (∀ n, s.seen.wcr n ∈ s.visible (.wcr n)) ∧
    (∃ v ∈ s.visible .edscr, s.seen.ctl.edscr = merge edscrControls s.ctl.edscr (loHalf v)) ∧
    (∃ v ∈ s.visible .edscr2, s.seen.ctl.edscr2 = loHalf v) ∧
    (∃ v ∈ s.visible .edeccr, s.seen.ctl.edeccr = loHalf v) ∧
    (∃ v ∈ s.visible .edecr, s.seen.ctl.edecr = loHalf v) ∧
    (∃ v ∈ s.visible .oslk, s.seen.lock.oslk = v.getLsbD 0) := by
  cases h : s.lateControls with
  | nil =>
    rw [seen_of_settled h]
    have self : ∀ r, s.control r ∈ s.visible r := fun r => (mem_visible_iff _ _ _).2 (.inl rfl)
    refine ⟨fun n => self (.bvr n), fun n => self (.bcr n), fun n => self (.wvr n), fun n => self (.wcr n),
      ⟨_, self _, ?_⟩, ⟨_, self _, (loHalf_setWidth _).symm⟩, ⟨_, self _, (loHalf_setWidth _).symm⟩,
      ⟨_, self _, (loHalf_setWidth _).symm⟩, ⟨_, self _, ?_⟩⟩
    · apply BitVec.eq_of_getLsbD_eq
      intro i _
      simp only [State.control, loHalf_setWidth, merge_getLsbD, BitVec.getLsbD_and]
      cases edscrControls.getLsbD i <;> simp
    · cases hl : s.lock.oslk <;> simp [State.control, hl]
  | cons a rest =>
    have late : ∀ r, s.seenOf r ∈ s.visible r := seenOf_mem s
    refine ⟨fun n => ?_, fun n => ?_, fun n => ?_, fun n => ?_, ⟨_, late _, ?_⟩, ⟨_, late _, ?_⟩, ⟨_, late _, ?_⟩,
      ⟨_, late _, ?_⟩, ⟨_, late _, ?_⟩⟩
    · simpa [State.bvr, State.seen, h] using late (.bvr n)
    · simpa [State.bcr, State.seen, h] using late (.bcr n)
    · simpa [State.wvr, State.seen, h] using late (.wvr n)
    · simpa [State.wcr, State.seen, h] using late (.wcr n)
    all_goals simp only [State.seen, h]

/-- A step that settles bits does what the statements say of them. -/
theorem settles_settle (s : State) (mask : ControlReg → Dword) : Settles s (s.settle mask) mask := by
  simp only [Settles, State.settle_lateControls, State.settle_control, merge]

/-- Where no bits are settled, nothing changes. -/
theorem settle_none (s : State) : s.settle (fun _ => 0) = s := by
  have hz : ∀ p : ControlReg × Dword, (p.1, merge 0 p.2 (s.control p.1)) = p := fun p => by
    have h : merge 0 p.2 (s.control p.1) = p.2 := BitVec.eq_of_getLsbD_eq fun i _ => by simp [merge_getLsbD]
    rw [h]
  simp only [State.settle, hz, List.map_id']

/-- A settled bit is the same in all the values of its control that the PE may see. -/
theorem visible_settle {s : State} {r : ControlReg} {mask : ControlReg → Dword} {v : Dword} {k : Nat}
    (hk : (mask r).getLsbD k = true) (hv : v ∈ (s.settle mask).visible r) : v.getLsbD k = (s.control r).getLsbD k := by
  rcases (mem_visible_iff _ _ _).1 hv with h | h
  · rw [h, State.settle_control]
  · simp only [State.settle_lateControls, List.mem_map] at h
    obtain ⟨p, -, hp⟩ := h
    obtain ⟨rfl, rfl⟩ := Prod.mk.inj hp
    rw [merge_getLsbD, hk, if_pos rfl]

/-- What is kept of a control after a transaction: what was kept before, and its value of before if the transaction changed
it. -/
theorem mem_remember {s t : State} {i : Instr} {r : ControlReg} {v : Dword} (h : (r, v) ∈ (s.remember i t).lateControls) :
    (r, v) ∈ t.lateControls ∨ (writtenControl i = some r ∧ v = s.control r ∧ t.control r ≠ s.control r) := by
  rw [State.remember_lateControls] at h
  split at h
  · exact .inl h
  · split at h
    · exact .inl h
    · rename_i r' hr hne
      rcases List.mem_cons.1 h with h | h
      · obtain ⟨rfl, rfl⟩ := Prod.mk.inj h
        exact .inr ⟨hr, rfl, hne⟩
      · exact .inl h

/-! ## Outcomes -/

/-- Entry to Debug state for a Halting debug event: it is taken, or nothing happens. -/
theorem stepEnterDebug_cases (s : State) (r : HaltReason) :
    (s.canHalt r = true ∧ s.seen.eventEnabled r = true ∧ s.stepEnterDebug r = s.enterDebugState r) ∨
      s.stepEnterDebug r = s := by
  cases h : s.canHalt r <;> cases h' : s.seen.eventEnabled r <;> simp [State.stepEnterDebug, h, h']

/-- Taking a pending event: it is taken, or nothing happens. -/
theorem stepTakePending_cases (s : State) (f : PendingEvent) (k : StepKind) :
    (s.canHalt (f.reason k) = true ∧ s.isPending f = true ∧ s.stepTakePending f k = s.enterDebugState (f.reason k)) ∨
      s.stepTakePending f k = s := by
  cases h : s.canHalt (f.reason k) <;> cases h' : s.isPending f <;> simp [State.stepTakePending, h, h']

/-- An event becomes pending, in its bit of EDESR, only if the PE generates it and cannot take it; else nothing happens. -/
theorem stepEventPending_cases (s : State) (r : HaltReason) :
    (∃ f, r.pending = some f ∧ s.executing = true ∧ s.seen.generates r = true ∧ s.canHalt r = false ∧
        s.stepEventPending r = s.mapEdesr fun w => edesrSet w f true) ∨
      s.stepEventPending r = s := by
  unfold State.stepEventPending
  split
  · rename_i h
    simp only [Bool.and_eq_true, Bool.not_eq_true'] at h
    cases hp : r.pending with
    | none => exact .inr rfl
    | some f => exact .inl ⟨f, rfl, h.1.1, h.1.2, h.2, rfl⟩
  · exact .inr rfl

/-- A write by PE software: it is trapped, or it stores, or nothing happens. -/
theorem stepSysWrite_cases (s : State) (r : SysReg) (v : Dword) :
    (r.trappedByTDA = true ∧ Executes s ∧ Trapped s ∧ s.stepSysWrite r v = s.enterDebugState .debugRegisterAccess) ∨
      (Executes s ∧ r.reachable s.cfg s.usingAA64 = true ∧ (r.trappedByTDA = false ∨ ¬Trapped s) ∧
        s.stepSysWrite r v = (s.sysRegWritten r v).settle r.written) ∨
      s.stepSysWrite r v = s := by
  unfold State.stepSysWrite
  split
  · rename_i h
    simp only [Bool.and_eq_true, executing_iff] at h
    have trap : (s.canHalt .debugRegisterAccess && s.seen.eventEnabled .debugRegisterAccess) = true ↔ Trapped s := by
      have := h.1
      simp only [Bool.and_eq_true, canHalt_iff, State.eventEnabled, State.tda, State.osLock, Bool.not_eq_true', Trapped,
        Executes] at this ⊢
      tauto
    split
    · rename_i ht
      rw [Bool.and_assoc, Bool.and_eq_true, trap] at ht
      exact .inl ⟨ht.1, h.1, ht.2, rfl⟩
    · rename_i ht
      rw [Bool.and_assoc, Bool.and_eq_true, trap] at ht
      refine .inr (.inl ⟨h.1, h.2, ?_, rfl⟩)
      cases hr : r.trappedByTDA
      · exact .inl rfl
      · exact .inr fun hn => ht ⟨hr, hn⟩
  · exact .inr (.inr rfl)

/-- A step of a Memory access mode operation: the PE's effect, and the channel at free values; or nothing happens. -/
theorem stepMemoryAccess_cases (s : State) (p : PeView) (e : Env) :
    (s.hal.halted = true ∧ s.dcc.memoryOp = true ∧ s.ite = false ∧ LegalView s.cfg p ∧
        s.stepMemoryAccess p e = (s.withPeEffect p e).memoryModeEffects) ∨
      s.stepMemoryAccess p e = s := by
  unfold State.stepMemoryAccess
  split
  · rename_i h
    simp only [Bool.and_eq_true, Bool.not_eq_true', isLegal_iff] at h
    exact .inl ⟨h.1.1.1.2, h.1.1.2, h.1.2, h.2, rfl⟩
  · exact .inr rfl

/-- Memory access mode changes the channel alone: DTRRX, DTRTX, the seven flags of EDSCR, and the note of what ITE 0 stands
for. ITR, and a word that waits in it, stay as they are. -/
theorem memoryModeEffects_frame (s : State) :
    ∃ rx tx w, s.memoryModeEffects =
        { s with
          dcc := { s.dcc with dtrrx := rx, dtrtx := tx, memoryOp := s.dcc.memoryOp || s.ite }
          ctl := { s.ctl with edscr := w } } ∧
      ∀ k, k < 32 → k ∉ [6, 24, 26, 27, 28, 29, 30] → w.getLsbD k = s.ctl.edscr.getLsbD k := by
  refine ⟨_, _, _, rfl, fun k hk h => ?_⟩
  simp only [merge_getLsbD, memoryModeFlags, BitVec.getLsbD_or, maskAt_getLsbD]
  interval_cases k <;> simp_all

/-- What an operation that has not completed may leave when the PE leaves Debug state: the two DTR words and the flags
(44 R536, 41 R306). -/
theorem unfinishedOperation_frame (s : State) :
    ∃ rx tx w, s.unfinishedOperation =
        { s with
          dcc := { s.dcc with dtrrx := rx, dtrtx := tx }
          ctl := { s.ctl with edscr := w } } ∧
      ∀ k, k < 32 → k ∉ [6, 24, 26, 27, 28, 29, 30] → w.getLsbD k = s.ctl.edscr.getLsbD k := by
  refine ⟨_, _, _, rfl, fun k hk h => ?_⟩
  simp only [merge_getLsbD, memoryModeFlags, BitVec.getLsbD_or, maskAt_getLsbD]
  interval_cases k <;> simp_all

/-- Leaving Debug state happens only after a restart request, and first settles what has not completed. -/
theorem stepExitDebug_cases (s : State) :
    (s.peActive = true ∧ s.hal.halted = true ∧ s.status = statusRestarting ∧
      s.stepExitDebug = (if s.ite then s else s.unfinishedOperation).exitDebugState) ∨
    s.stepExitDebug = s := by
  unfold State.stepExitDebug
  split
  · rename_i h
    simp only [Bool.and_eq_true, decide_eq_true_eq] at h
    exact .inl ⟨h.1.1, h.1.2, h.2, rfl⟩
  · exact .inr rfl

/-- A System register write stores in the register arrays, the CLAIM tags, EDECCR, EDPRCR, EDESR and the OS Lock, and
nowhere else. -/
theorem sysRegWritten_frame (s : State) (r : SysReg) (v : Dword) :
    ∃ regs dcc ctl lock, s.sysRegWritten r v = { s with regs := regs, dcc := dcc, ctl := ctl, lock := lock } := by
  cases r <;> simp only [State.sysRegWritten]
  case dbgbcr n => split <;> exact ⟨_, _, _, _, rfl⟩
  case dbgwcr n => split <;> exact ⟨_, _, _, _, rfl⟩
  all_goals exact ⟨_, _, _, _, rfl⟩

/-! ## Exception Catch -/

/-- A pair of EDECCR bits, each 0 where it is no field. -/
theorem catchBits_eq (s : State) (e r : Nat) (he : e < 32) (hr : r < 32) :
    s.catchBits e r =
      (edeccrField s.cfg e && s.ctl.edeccr.getLsbD e, edeccrField s.cfg r && s.ctl.edeccr.getLsbD r) := by
  simp only [State.catchBits, BitVec.getLsbD_and, edeccrFields_getLsbD _ _ he, edeccrFields_getLsbD _ _ hr, Bool.and_comm]

/-! ## Resets -/

/-- EDESR after the Warm entries, bit by bit: OSUC 0, RC its enable, SS the Halting step enable without FEAT_DoPD, EC 0 with
FEAT_Debugv8p8, every other bit as it was. -/
theorem edesrAfterWarm_getLsbD (s : State) (k : Nat) :
    s.edesrAfterWarm.getLsbD k =
      if k = 0 then false
      else if k = 1 then (if s.cfg.dbg.doPD then s.env.ctiRCE else s.rce)
      else if k = 2 then (if s.cfg.dbg.doPD then s.ctl.edesr.getLsbD 2 else s.stepEnable)
      else if k = 3 then s.ctl.edesr.getLsbD 3 && !s.cfg.dbg.debugv8p8
      else s.ctl.edesr.getLsbD k := by
  have pick : ∀ (c : Bool) (u v : Word), (if c then u else v).getLsbD k = if c then u.getLsbD k else v.getLsbD k := by
    intro c u v; cases c <;> rfl
  simp only [State.edesrAfterWarm, pick, edesrSet_getLsbD, PendingEvent.bit]
  by_cases h0 : k = 0 <;> by_cases h1 : k = 1 <;> by_cases h2 : k = 2 <;> by_cases h3 : k = 3 <;>
    cases s.cfg.dbg.doPD <;> cases s.cfg.dbg.debugv8p8 <;> simp_all

/-- Leaving the retention state: at most CORENPDRQ and SPD change with the power state; in any other state nothing. -/
theorem leaveRetention_cases (s : State) :
    (s.power.core = .retention ∧ ∃ w, s.leaveRetention =
        { s with
          ctl := { s.ctl with edprcr := w }
          power := { s.power with core := .powered }
          sticky := { s.sticky with spd := s.sticky.spd || s.cfg.opt.spdSetByRetention } } ∧
      ∀ k, k ≠ 0 → w.getLsbD k = s.ctl.edprcr.getLsbD k) ∨
    (s.power.core ≠ .retention ∧ s.leaveRetention = s) := by
  by_cases h : s.power.core = .retention
  · refine .inl ⟨h, _, by rw [State.leaveRetention, if_pos h], fun k hk => ?_⟩
    split <;> simp [setBit_getLsbD, hk]
  · exact .inr ⟨h, by rw [State.leaveRetention, if_neg h]⟩

end Sys2Proof.Machine
end

