-- ==== Sys2Proof/Laws/PerInstr.lean ====
section
/-!
SUPPORT. The family `KeyShape`: bit 12 of a transaction's key is its direction and the offset below it is word-aligned
(30_encoding.md R180, 20_memory.md R145), for every constructor of `Instr`.
-/

namespace Sys2Proof.Laws.KeyShape

/-- Bit 12 of the key says whether the transaction writes, and offset bits [1:0] are 0. -/
def Statement (i : Instr) : Prop :=
  i.key.getLsbD 12 = i.isWrite ∧ i.key.getLsbD 1 = false ∧ i.key.getLsbD 0 = false

/-- The index of an array word stands in bits [9:4] of its key: the other bits are those of the base. -/
theorem arrayKey_getLsbD (base : BitVec 13) (n : Index) (k : Nat) (h : k < 4 ∨ 10 ≤ k) :
    (arrayKey base n).getLsbD k = base.getLsbD k := by
  simp only [arrayKey, BitVec.getLsbD_or, BitVec.getLsbD_shiftLeft, BitVec.getLsbD_setWidth]
  rcases h with h | h
  · simp [h]
  · rw [BitVec.getLsbD_of_ge n (k - 4) (by omega)]
    simp

/-- The key of an array word has the direction of its base, and is aligned if its base is. -/
theorem arrayKey_shape (base : BitVec 13) (n : Index) (h1 : base.getLsbD 1 = false) (h0 : base.getLsbD 0 = false) :
    (arrayKey base n).getLsbD 12 = base.getLsbD 12 ∧ (arrayKey base n).getLsbD 1 = false ∧
      (arrayKey base n).getLsbD 0 = false := by
  rw [arrayKey_getLsbD base n 12 (by omega), arrayKey_getLsbD base n 1 (by omega), arrayKey_getLsbD base n 0 (by omega)]
  exact ⟨rfl, h1, h0⟩

/-- A transaction with a fixed key has the shape if the key does. -/
theorem fixedKey_shape (i : Instr) (k : BitVec 13) (hk : i.key = k) (hd : k.getLsbD 12 = i.isWrite)
    (hz : (k.getLsbD 1 || k.getLsbD 0) = false) : Statement i := by
  have := Bool.or_eq_false_iff.mp hz
  exact ⟨hk ▸ hd, hk ▸ this.1, hk ▸ this.2⟩

theorem rdEdesr (ad : AddrDesc) : Statement (.rdEdesr ad) :=
  fixedKey_shape _ 0x0020 rfl rfl (by decide)
theorem wrEdesr (d : Word) (ad : AddrDesc) : Statement (.wrEdesr d ad) :=
  fixedKey_shape _ 0x1020 rfl rfl (by decide)
theorem rdEdecr (ad : AddrDesc) : Statement (.rdEdecr ad) :=
  fixedKey_shape _ 0x0024 rfl rfl (by decide)
theorem wrEdecr (d : Word) (ad : AddrDesc) : Statement (.wrEdecr d ad) :=
  fixedKey_shape _ 0x1024 rfl rfl (by decide)
theorem rdEdscr2 (ad : AddrDesc) : Statement (.rdEdscr2 ad) :=
  fixedKey_shape _ 0x0028 rfl rfl (by decide)
theorem wrEdscr2 (d : Word) (ad : AddrDesc) : Statement (.wrEdscr2 d ad) :=
  fixedKey_shape _ 0x1028 rfl rfl (by decide)
theorem rdEdwarLo (ad : AddrDesc) : Statement (.rdEdwarLo ad) :=
  fixedKey_shape _ 0x0030 rfl rfl (by decide)
theorem wrEdwarLo (d : Word) (ad : AddrDesc) : Statement (.wrEdwarLo d ad) :=
  fixedKey_shape _ 0x1030 rfl rfl (by decide)
theorem rdEdwarHi (ad : AddrDesc) : Statement (.rdEdwarHi ad) :=
  fixedKey_shape _ 0x0034 rfl rfl (by decide)
theorem wrEdwarHi (d : Word) (ad : AddrDesc) : Statement (.wrEdwarHi d ad) :=
  fixedKey_shape _ 0x1034 rfl rfl (by decide)
theorem rdEdhsrLo (ad : AddrDesc) : Statement (.rdEdhsrLo ad) :=
  fixedKey_shape _ 0x0038 rfl rfl (by decide)
theorem wrEdhsrLo (d : Word) (ad : AddrDesc) : Statement (.wrEdhsrLo d ad) :=
  fixedKey_shape _ 0x1038 rfl rfl (by decide)
theorem rdEdhsrHi (ad : AddrDesc) : Statement (.rdEdhsrHi ad) :=
  fixedKey_shape _ 0x003C rfl rfl (by decide)
theorem wrEdhsrHi (d : Word) (ad : AddrDesc) : Statement (.wrEdhsrHi d ad) :=
  fixedKey_shape _ 0x103C rfl rfl (by decide)
theorem rdDbgdtrrx (ad : AddrDesc) : Statement (.rdDbgdtrrx ad) :=
  fixedKey_shape _ 0x0080 rfl rfl (by decide)
theorem wrDbgdtrrx (d : Word) (ad : AddrDesc) : Statement (.wrDbgdtrrx d ad) :=
  fixedKey_shape _ 0x1080 rfl rfl (by decide)
theorem rdEditr (ad : AddrDesc) : Statement (.rdEditr ad) :=
  fixedKey_shape _ 0x0084 rfl rfl (by decide)
theorem wrEditr (d : Word) (ad : AddrDesc) : Statement (.wrEditr d ad) :=
  fixedKey_shape _ 0x1084 rfl rfl (by decide)
theorem rdEdscr (ad : AddrDesc) : Statement (.rdEdscr ad) :=
  fixedKey_shape _ 0x0088 rfl rfl (by decide)
theorem wrEdscr (d : Word) (ad : AddrDesc) : Statement (.wrEdscr d ad) :=
  fixedKey_shape _ 0x1088 rfl rfl (by decide)
theorem rdDbgdtrtx (ad : AddrDesc) : Statement (.rdDbgdtrtx ad) :=
  fixedKey_shape _ 0x008C rfl rfl (by decide)
theorem wrDbgdtrtx (d : Word) (ad : AddrDesc) : Statement (.wrDbgdtrtx d ad) :=
  fixedKey_shape _ 0x108C rfl rfl (by decide)
theorem rdEdrcr (ad : AddrDesc) : Statement (.rdEdrcr ad) :=
  fixedKey_shape _ 0x0090 rfl rfl (by decide)
theorem wrEdrcr (d : Word) (ad : AddrDesc) : Statement (.wrEdrcr d ad) :=
  fixedKey_shape _ 0x1090 rfl rfl (by decide)
theorem rdEdacr (ad : AddrDesc) : Statement (.rdEdacr ad) :=
  fixedKey_shape _ 0x0094 rfl rfl (by decide)
theorem wrEdacr (d : Word) (ad : AddrDesc) : Statement (.wrEdacr d ad) :=
  fixedKey_shape _ 0x1094 rfl rfl (by decide)
theorem rdEdeccr (ad : AddrDesc) : Statement (.rdEdeccr ad) :=
  fixedKey_shape _ 0x0098 rfl rfl (by decide)
theorem wrEdeccr (d : Word) (ad : AddrDesc) : Statement (.wrEdeccr d ad) :=
  fixedKey_shape _ 0x1098 rfl rfl (by decide)
theorem rdEdpcsrLo (ad : AddrDesc) : Statement (.rdEdpcsrLo ad) :=
  fixedKey_shape _ 0x00A0 rfl rfl (by decide)
theorem wrEdpcsrLo (d : Word) (ad : AddrDesc) : Statement (.wrEdpcsrLo d ad) :=
  fixedKey_shape _ 0x10A0 rfl rfl (by decide)
theorem rdEdcidsr (ad : AddrDesc) : Statement (.rdEdcidsr ad) :=
  fixedKey_shape _ 0x00A4 rfl rfl (by decide)
theorem wrEdcidsr (d : Word) (ad : AddrDesc) : Statement (.wrEdcidsr d ad) :=
  fixedKey_shape _ 0x10A4 rfl rfl (by decide)
theorem rdEdvidsr (ad : AddrDesc) : Statement (.rdEdvidsr ad) :=
  fixedKey_shape _ 0x00A8 rfl rfl (by decide)
theorem wrEdvidsr (d : Word) (ad : AddrDesc) : Statement (.wrEdvidsr d ad) :=
  fixedKey_shape _ 0x10A8 rfl rfl (by decide)
theorem rdEdpcsrHi (ad : AddrDesc) : Statement (.rdEdpcsrHi ad) :=
  fixedKey_shape _ 0x00AC rfl rfl (by decide)
theorem wrEdpcsrHi (d : Word) (ad : AddrDesc) : Statement (.wrEdpcsrHi d ad) :=
  fixedKey_shape _ 0x10AC rfl rfl (by decide)
theorem rdOslar (ad : AddrDesc) : Statement (.rdOslar ad) :=
  fixedKey_shape _ 0x0300 rfl rfl (by decide)
theorem wrOslar (d : Word) (ad : AddrDesc) : Statement (.wrOslar d ad) :=
  fixedKey_shape _ 0x1300 rfl rfl (by decide)
theorem rdEdprcr (ad : AddrDesc) : Statement (.rdEdprcr ad) :=
  fixedKey_shape _ 0x0310 rfl rfl (by decide)
theorem wrEdprcr (d : Word) (ad : AddrDesc) : Statement (.wrEdprcr d ad) :=
  fixedKey_shape _ 0x1310 rfl rfl (by decide)
theorem rdEdprsr (ad : AddrDesc) : Statement (.rdEdprsr ad) :=
  fixedKey_shape _ 0x0314 rfl rfl (by decide)
theorem wrEdprsr (d : Word) (ad : AddrDesc) : Statement (.wrEdprsr d ad) :=
  fixedKey_shape _ 0x1314 rfl rfl (by decide)
theorem rdDbgbvrLo (n : Index) (ad : AddrDesc) : Statement (.rdDbgbvrLo n ad) :=
  arrayKey_shape _ n (by decide) (by decide)
theorem wrDbgbvrLo (n : Index) (d : Word) (ad : AddrDesc) : Statement (.wrDbgbvrLo n d ad) :=
  arrayKey_shape _ n (by decide) (by decide)
theorem rdDbgbvrHi (n : Index) (ad : AddrDesc) : Statement (.rdDbgbvrHi n ad) :=
  arrayKey_shape _ n (by decide) (by decide)
theorem wrDbgbvrHi (n : Index) (d : Word) (ad : AddrDesc) : Statement (.wrDbgbvrHi n d ad) :=
  arrayKey_shape _ n (by decide) (by decide)
theorem rdDbgbcrLo (n : Index) (ad : AddrDesc) : Statement (.rdDbgbcrLo n ad) :=
  arrayKey_shape _ n (by decide) (by decide)
theorem wrDbgbcrLo (n : Index) (d : Word) (ad : AddrDesc) : Statement (.wrDbgbcrLo n d ad) :=
  arrayKey_shape _ n (by decide) (by decide)
theorem rdDbgbcrHi (n : Index) (ad : AddrDesc) : Statement (.rdDbgbcrHi n ad) :=
  arrayKey_shape _ n (by decide) (by decide)
theorem wrDbgbcrHi (n : Index) (d : Word) (ad : AddrDesc) : Statement (.wrDbgbcrHi n d ad) :=
  arrayKey_shape _ n (by decide) (by decide)
theorem rdDbgwvrLo (n : Index) (ad : AddrDesc) : Statement (.rdDbgwvrLo n ad) :=
  arrayKey_shape _ n (by decide) (by decide)
theorem wrDbgwvrLo (n : Index) (d : Word) (ad : AddrDesc) : Statement (.wrDbgwvrLo n d ad) :=
  arrayKey_shape _ n (by decide) (by decide)
theorem rdDbgwvrHi (n : Index) (ad : AddrDesc) : Statement (.rdDbgwvrHi n ad) :=
  arrayKey_shape _ n (by decide) (by decide)
theorem wrDbgwvrHi (n : Index) (d : Word) (ad : AddrDesc) : Statement (.wrDbgwvrHi n d ad) :=
  arrayKey_shape _ n (by decide) (by decide)
theorem rdDbgwcrLo (n : Index) (ad : AddrDesc) : Statement (.rdDbgwcrLo n ad) :=
  arrayKey_shape _ n (by decide) (by decide)
theorem wrDbgwcrLo (n : Index) (d : Word) (ad : AddrDesc) : Statement (.wrDbgwcrLo n d ad) :=
  arrayKey_shape _ n (by decide) (by decide)
theorem rdDbgwcrHi (n : Index) (ad : AddrDesc) : Statement (.rdDbgwcrHi n ad) :=
  arrayKey_shape _ n (by decide) (by decide)
theorem wrDbgwcrHi (n : Index) (d : Word) (ad : AddrDesc) : Statement (.wrDbgwcrHi n d ad) :=
  arrayKey_shape _ n (by decide) (by decide)
theorem rdMidr (ad : AddrDesc) : Statement (.rdMidr ad) :=
  fixedKey_shape _ 0x0D00 rfl rfl (by decide)
theorem wrMidr (d : Word) (ad : AddrDesc) : Statement (.wrMidr d ad) :=
  fixedKey_shape _ 0x1D00 rfl rfl (by decide)
theorem rdEdpfrLo (ad : AddrDesc) : Statement (.rdEdpfrLo ad) :=
  fixedKey_shape _ 0x0D20 rfl rfl (by decide)
theorem wrEdpfrLo (d : Word) (ad : AddrDesc) : Statement (.wrEdpfrLo d ad) :=
  fixedKey_shape _ 0x1D20 rfl rfl (by decide)
theorem rdEdpfrHi (ad : AddrDesc) : Statement (.rdEdpfrHi ad) :=
  fixedKey_shape _ 0x0D24 rfl rfl (by decide)
theorem wrEdpfrHi (d : Word) (ad : AddrDesc) : Statement (.wrEdpfrHi d ad) :=
  fixedKey_shape _ 0x1D24 rfl rfl (by decide)
theorem rdEddfrLo (ad : AddrDesc) : Statement (.rdEddfrLo ad) :=
  fixedKey_shape _ 0x0D28 rfl rfl (by decide)
theorem wrEddfrLo (d : Word) (ad : AddrDesc) : Statement (.wrEddfrLo d ad) :=
  fixedKey_shape _ 0x1D28 rfl rfl (by decide)
theorem rdEddfrHi (ad : AddrDesc) : Statement (.rdEddfrHi ad) :=
  fixedKey_shape _ 0x0D2C rfl rfl (by decide)
theorem wrEddfrHi (d : Word) (ad : AddrDesc) : Statement (.wrEddfrHi d ad) :=
  fixedKey_shape _ 0x1D2C rfl rfl (by decide)
theorem rdEddfr1Lo (ad : AddrDesc) : Statement (.rdEddfr1Lo ad) :=
  fixedKey_shape _ 0x0D48 rfl rfl (by decide)
theorem wrEddfr1Lo (d : Word) (ad : AddrDesc) : Statement (.wrEddfr1Lo d ad) :=
  fixedKey_shape _ 0x1D48 rfl rfl (by decide)
theorem rdEddfr1Hi (ad : AddrDesc) : Statement (.rdEddfr1Hi ad) :=
  fixedKey_shape _ 0x0D4C rfl rfl (by decide)
theorem wrEddfr1Hi (d : Word) (ad : AddrDesc) : Statement (.wrEddfr1Hi d ad) :=
  fixedKey_shape _ 0x1D4C rfl rfl (by decide)
theorem rdEddfr2Lo (ad : AddrDesc) : Statement (.rdEddfr2Lo ad) :=
  fixedKey_shape _ 0x0D50 rfl rfl (by decide)
theorem wrEddfr2Lo (d : Word) (ad : AddrDesc) : Statement (.wrEddfr2Lo d ad) :=
  fixedKey_shape _ 0x1D50 rfl rfl (by decide)
theorem rdEddfr2Hi (ad : AddrDesc) : Statement (.rdEddfr2Hi ad) :=
  fixedKey_shape _ 0x0D54 rfl rfl (by decide)
theorem wrEddfr2Hi (d : Word) (ad : AddrDesc) : Statement (.wrEddfr2Hi d ad) :=
  fixedKey_shape _ 0x1D54 rfl rfl (by decide)
theorem rdEdaa32pfrLo (ad : AddrDesc) : Statement (.rdEdaa32pfrLo ad) :=
  fixedKey_shape _ 0x0D60 rfl rfl (by decide)
theorem wrEdaa32pfrLo (d : Word) (ad : AddrDesc) : Statement (.wrEdaa32pfrLo d ad) :=
  fixedKey_shape _ 0x1D60 rfl rfl (by decide)
theorem rdEdaa32pfrHi (ad : AddrDesc) : Statement (.rdEdaa32pfrHi ad) :=
  fixedKey_shape _ 0x0D64 rfl rfl (by decide)
theorem wrEdaa32pfrHi (d : Word) (ad : AddrDesc) : Statement (.wrEdaa32pfrHi d ad) :=
  fixedKey_shape _ 0x1D64 rfl rfl (by decide)
theorem rdEditctrl (ad : AddrDesc) : Statement (.rdEditctrl ad) :=
  fixedKey_shape _ 0x0F00 rfl rfl (by decide)
theorem wrEditctrl (d : Word) (ad : AddrDesc) : Statement (.wrEditctrl d ad) :=
  fixedKey_shape _ 0x1F00 rfl rfl (by decide)
theorem rdDbgclaimset (ad : AddrDesc) : Statement (.rdDbgclaimset ad) :=
  fixedKey_shape _ 0x0FA0 rfl rfl (by decide)
theorem wrDbgclaimset (d : Word) (ad : AddrDesc) : Statement (.wrDbgclaimset d ad) :=
  fixedKey_shape _ 0x1FA0 rfl rfl (by decide)
theorem rdDbgclaimclr (ad : AddrDesc) : Statement (.rdDbgclaimclr ad) :=
  fixedKey_shape _ 0x0FA4 rfl rfl (by decide)
theorem wrDbgclaimclr (d : Word) (ad : AddrDesc) : Statement (.wrDbgclaimclr d ad) :=
  fixedKey_shape _ 0x1FA4 rfl rfl (by decide)
theorem rdEddevaff0 (ad : AddrDesc) : Statement (.rdEddevaff0 ad) :=
  fixedKey_shape _ 0x0FA8 rfl rfl (by decide)
theorem wrEddevaff0 (d : Word) (ad : AddrDesc) : Statement (.wrEddevaff0 d ad) :=
  fixedKey_shape _ 0x1FA8 rfl rfl (by decide)
theorem rdEddevaff1 (ad : AddrDesc) : Statement (.rdEddevaff1 ad) :=
  fixedKey_shape _ 0x0FAC rfl rfl (by decide)
theorem wrEddevaff1 (d : Word) (ad : AddrDesc) : Statement (.wrEddevaff1 d ad) :=
  fixedKey_shape _ 0x1FAC rfl rfl (by decide)
theorem rdEdlar (ad : AddrDesc) : Statement (.rdEdlar ad) :=
  fixedKey_shape _ 0x0FB0 rfl rfl (by decide)
theorem wrEdlar (d : Word) (ad : AddrDesc) : Statement (.wrEdlar d ad) :=
  fixedKey_shape _ 0x1FB0 rfl rfl (by decide)
theorem rdEdlsr (ad : AddrDesc) : Statement (.rdEdlsr ad) :=
  fixedKey_shape _ 0x0FB4 rfl rfl (by decide)
theorem wrEdlsr (d : Word) (ad : AddrDesc) : Statement (.wrEdlsr d ad) :=
  fixedKey_shape _ 0x1FB4 rfl rfl (by decide)
theorem rdDbgauthstatus (ad : AddrDesc) : Statement (.rdDbgauthstatus ad) :=
  fixedKey_shape _ 0x0FB8 rfl rfl (by decide)
theorem wrDbgauthstatus (d : Word) (ad : AddrDesc) : Statement (.wrDbgauthstatus d ad) :=
  fixedKey_shape _ 0x1FB8 rfl rfl (by decide)
theorem rdEddevarch (ad : AddrDesc) : Statement (.rdEddevarch ad) :=
  fixedKey_shape _ 0x0FBC rfl rfl (by decide)
theorem wrEddevarch (d : Word) (ad : AddrDesc) : Statement (.wrEddevarch d ad) :=
  fixedKey_shape _ 0x1FBC rfl rfl (by decide)
theorem rdEddevid2 (ad : AddrDesc) : Statement (.rdEddevid2 ad) :=
  fixedKey_shape _ 0x0FC0 rfl rfl (by decide)
theorem wrEddevid2 (d : Word) (ad : AddrDesc) : Statement (.wrEddevid2 d ad) :=
  fixedKey_shape _ 0x1FC0 rfl rfl (by decide)
theorem rdEddevid1 (ad : AddrDesc) : Statement (.rdEddevid1 ad) :=
  fixedKey_shape _ 0x0FC4 rfl rfl (by decide)
theorem wrEddevid1 (d : Word) (ad : AddrDesc) : Statement (.wrEddevid1 d ad) :=
  fixedKey_shape _ 0x1FC4 rfl rfl (by decide)
theorem rdEddevid (ad : AddrDesc) : Statement (.rdEddevid ad) :=
  fixedKey_shape _ 0x0FC8 rfl rfl (by decide)
theorem wrEddevid (d : Word) (ad : AddrDesc) : Statement (.wrEddevid d ad) :=
  fixedKey_shape _ 0x1FC8 rfl rfl (by decide)
theorem rdEddevtype (ad : AddrDesc) : Statement (.rdEddevtype ad) :=
  fixedKey_shape _ 0x0FCC rfl rfl (by decide)
theorem wrEddevtype (d : Word) (ad : AddrDesc) : Statement (.wrEddevtype d ad) :=
  fixedKey_shape _ 0x1FCC rfl rfl (by decide)
theorem rdEdpidr4 (ad : AddrDesc) : Statement (.rdEdpidr4 ad) :=
  fixedKey_shape _ 0x0FD0 rfl rfl (by decide)
theorem wrEdpidr4 (d : Word) (ad : AddrDesc) : Statement (.wrEdpidr4 d ad) :=
  fixedKey_shape _ 0x1FD0 rfl rfl (by decide)
theorem rdEdpidr0 (ad : AddrDesc) : Statement (.rdEdpidr0 ad) :=
  fixedKey_shape _ 0x0FE0 rfl rfl (by decide)
theorem wrEdpidr0 (d : Word) (ad : AddrDesc) : Statement (.wrEdpidr0 d ad) :=
  fixedKey_shape _ 0x1FE0 rfl rfl (by decide)
theorem rdEdpidr1 (ad : AddrDesc) : Statement (.rdEdpidr1 ad) :=
  fixedKey_shape _ 0x0FE4 rfl rfl (by decide)
theorem wrEdpidr1 (d : Word) (ad : AddrDesc) : Statement (.wrEdpidr1 d ad) :=
  fixedKey_shape _ 0x1FE4 rfl rfl (by decide)
theorem rdEdpidr2 (ad : AddrDesc) : Statement (.rdEdpidr2 ad) :=
  fixedKey_shape _ 0x0FE8 rfl rfl (by decide)
theorem wrEdpidr2 (d : Word) (ad : AddrDesc) : Statement (.wrEdpidr2 d ad) :=
  fixedKey_shape _ 0x1FE8 rfl rfl (by decide)
theorem rdEdpidr3 (ad : AddrDesc) : Statement (.rdEdpidr3 ad) :=
  fixedKey_shape _ 0x0FEC rfl rfl (by decide)
theorem wrEdpidr3 (d : Word) (ad : AddrDesc) : Statement (.wrEdpidr3 d ad) :=
  fixedKey_shape _ 0x1FEC rfl rfl (by decide)
theorem rdEdcidr0 (ad : AddrDesc) : Statement (.rdEdcidr0 ad) :=
  fixedKey_shape _ 0x0FF0 rfl rfl (by decide)
theorem wrEdcidr0 (d : Word) (ad : AddrDesc) : Statement (.wrEdcidr0 d ad) :=
  fixedKey_shape _ 0x1FF0 rfl rfl (by decide)
theorem rdEdcidr1 (ad : AddrDesc) : Statement (.rdEdcidr1 ad) :=
  fixedKey_shape _ 0x0FF4 rfl rfl (by decide)
theorem wrEdcidr1 (d : Word) (ad : AddrDesc) : Statement (.wrEdcidr1 d ad) :=
  fixedKey_shape _ 0x1FF4 rfl rfl (by decide)
theorem rdEdcidr2 (ad : AddrDesc) : Statement (.rdEdcidr2 ad) :=
  fixedKey_shape _ 0x0FF8 rfl rfl (by decide)
theorem wrEdcidr2 (d : Word) (ad : AddrDesc) : Statement (.wrEdcidr2 d ad) :=
  fixedKey_shape _ 0x1FF8 rfl rfl (by decide)
theorem rdEdcidr3 (ad : AddrDesc) : Statement (.rdEdcidr3 ad) :=
  fixedKey_shape _ 0x0FFC rfl rfl (by decide)
theorem wrEdcidr3 (d : Word) (ad : AddrDesc) : Statement (.wrEdcidr3 d ad) :=
  fixedKey_shape _ 0x1FFC rfl rfl (by decide)

end Sys2Proof.Laws.KeyShape
end

