-- ==== Sys2Proof/Laws/Sample.lean ====
section
/-!
SUPPORT. What a read of EDPCSR[31:0] can return and leave in the sample registers, said once (45 R568, R571).
-/

namespace Sys2Proof.Machine

open Sys2Proof.Safety

/-- The Context ID of a sample is one of the values held since the last context synchronization event (42 R378). -/
theorem contextSample_mem (s : State) : ∃ r ∈ s.pe.context :: s.earlierContexts, s.contextSample = s.contextOf r := by
  have bound : (s.free64 .sampleContext).toNat % (s.pe.context :: s.earlierContexts).length <
      (s.pe.context :: s.earlierContexts).length := Nat.mod_lt _ (by simp)
  refine ⟨_, List.getElem_mem bound, ?_⟩
  simp only [State.contextSample, List.getD_eq_getElem _ _ bound]

/-- HV is 1 where the upper half of the address is not 0, so that EDPCSR[63:32] of the first format is that half. -/
theorem pcsrHiSample_first {s : State} (h : s.sc2 = false) : s.pcsrHiSample = hiHalf s.sampleAddr := by
  simp only [State.pcsrHiSample, State.sampleFormat2, h, Bool.and_false, Bool.false_eq_true, if_false, State.sampleHV]
  by_cases hz : hiHalf s.sampleAddr = 0#32
  · simp [hz]
  · simp [bne_iff_ne.2 hz]

/-- SC2 is a field only with FEAT_Debugv8p1, so that it alone selects the second format. -/
theorem sampleFormat2_eq (s : State) : s.sampleFormat2 = s.sc2 := by
  cases h : s.cfg.dbg.debugv8p1 <;> simp [State.sampleFormat2, State.sc2, Config.hasSC2, h]

/-- No sample in Debug state or where sampling is prohibited. -/
theorem pcsrRead_of_prohibited {s : State} (h : s.hal.halted = true ∨ s.env.pcSampleProhibited = true) :
    s.pcsrRead = (0xFFFFFFFF, false) := by
  rcases h with h | h <;> simp [State.pcsrRead, h]

/-- No sample in reset state, or where no branch has retired since the last read. -/
theorem pcsrRead_of_stale {s : State} (h : ¬(s.hal.halted = true ∨ s.env.pcSampleProhibited = true))
    (hs : s.power.inReset = true ∨ s.smp.fresh = false) : s.pcsrRead = (s.free32 .pcsrLo, false) := by
  rcases hs with hs | hs <;> simp_all [State.pcsrRead]

/-- A fresh sample is returned, unless this is the first read. -/
theorem pcsrRead_of_live {s : State} (h : ¬(s.hal.halted = true ∨ s.env.pcSampleProhibited = true))
    (hr : s.power.inReset = false) (hf : s.smp.fresh = true) :
    s.pcsrRead = (loHalf s.sampleAddr, true) ∨ (s.smp.first = true ∧ s.pcsrRead = (0xFFFFFFFF, false)) := by
  cases h1 : s.smp.first <;> cases h2 : s.flip .pcsrFirst <;> simp_all [State.pcsrRead]

/-- Under the Software Lock nothing is captured; the two hidden flags are cleared (D31). -/
theorem takeSample_of_locked {s : State} {ad : AddrDesc} (h : s.softLock ad = true) :
    s.takeSample ad = { s.smp with fresh := false, first := false } := by
  simp [State.takeSample, h]

/-- Every read clears the two hidden flags. -/
theorem takeSample_flags (s : State) (ad : AddrDesc) :
    (s.takeSample ad).fresh = false ∧ (s.takeSample ad).first = false := by
  unfold State.takeSample
  dsimp only
  split
  · exact ⟨rfl, rfl⟩
  · split <;> exact ⟨rfl, rfl⟩

/-- What a read that returns the sample captures. -/
theorem takeSample_of_sampled {s : State} {ad : AddrDesc} (h : s.softLock ad = false) (hv : s.pcsrRead.2 = true) :
    s.takeSample ad =
      { pcsrHi := s.pcsrHiSample, cidsr := s.contextSample, vidsr := s.vidsrSample, fresh := false, first := false } := by
  simp [State.takeSample, h, hv]

/-- A read of EDPCSR[31:0] whose ladder gives no ERROR completes. -/
theorem execRdEdpcsrLo_of_unlocked {s : State} (ad : AddrDesc) (hp : s.cfg.hasPcsr = true) (h : Unlocked s) :
    exec (.rdEdpcsrLo ad) s = .next { s with smp := s.takeSample ad, response := .okRead s.pcsrRead.1 } := by
  simp [exec, execRdEdpcsrLo, hp, readReg_readOnly _ ((locked_holds_iff s ad).2 h)]

end Sys2Proof.Machine
end

