-- ==== Sys2Proof/Tests/Slice0.lean ====
section
/-!
SUPPORT. The model's own tests. Words are written out from the key patterns of 30_encoding.md R183; expected results are
the vectors V<n> and programs P<n> of spec/95_test_vectors.md, on its configurations CFG-A and CFG-B and its start state
S0. A theorem `witness_<Name>` shows states and operands that meet the hypotheses of `Obligations.<Name>`, clause by
clause.
-/

namespace Sys2Proof.Tests

open Sys2Proof.Machine Sys2Proof.Safety

/-! ## States -/

/-- An access through the external debug interface, Non-secure. -/
def ext : AddrDesc := ⟨false, .nonSecure⟩

/-- A memory-mapped access, Non-secure. -/
def mm : AddrDesc := ⟨true, .nonSecure⟩

/-- A Secure access through the external debug interface. -/
def sec : AddrDesc := ⟨false, .secure⟩

/-- The start state S0 of 95_test_vectors.md. -/
def s0 : State :=
  { State.reset with
    lock := ⟨false, false⟩
    sticky := ⟨false, false, false, false, false, false⟩
    smp := { State.reset.smp with first := false }
    pe := { State.reset.pe with el := 1, ss := .nonSecure } }

/-- The OS Lock set. -/
def withOsLock (s : State) : State := { s with lock := { s.lock with oslk := true } }

/-- The Software Lock set. -/
def withSoftLock (s : State) : State := { s with lock := { s.lock with slk := true } }

/-- AllowExternalDebugAccess(Non-secure) FALSE. -/
def denied (s : State) : State :=
  { s with env := { s.env with allowDebug := { s.env.allowDebug with nonSecure := false } } }

/-- The Core power domain off. -/
def coreOff (s : State) : State := { s with power := { s.power with core := .off } }

/-- EDSCR with the given bits added. -/
def withEdscr (w : Word) (s : State) : State := { s with ctl := { s.ctl with edscr := s.ctl.edscr ||| w } }

/-- Debug state, as entered by `r`. -/
def halted (r : HaltReason) (s : State) : State := s.enterDebugState r

/-- Debug state, by an External Debug Request. -/
def haltedExt (s : State) : State := halted .externalRequest s

/-- Another implementation. -/
def withCfg (f : Config → Config) (s : State) : State := { s with cfg := f s.cfg }

/-- CFG-B of 95_test_vectors.md. -/
def configB (c : Config) : Config :=
  { c with
    dbg := { c.dbg with doPD := true, debugv8p8 := true, debugv8p9 := true, edhsr := true, bwe := true }
    has := { c.has with softwareLock := false }
    pe := { c.pe with numBrp := 20, numWrp := 16, numCtxCmp := 4 } }

/-- S0 on CFG-B. -/
def s0B : State := withCfg configB s0

/-- Without FEAT_PMUv3, so that EDPRSR[9] is RES0 (where FEAT_PMUv3 has no external interface it is UNKNOWN, 46 R649: the
vectors' 0 is one of its values). -/
def noPmu (s : State) : State := withCfg (fun c => { c with sys := { c.sys with pmuv3 := false } }) s

/-- The response of a transaction. -/
def respOf (i : Instr) (s : State) : Response :=
  match exec i s with
  | .next t => t.response
  | _ => .none

/-- The state after a transaction. -/
def after (i : Instr) (s : State) : State :=
  match exec i s with
  | .next t => t
  | _ => s

/-! ## Well-formedness: the one check, on the access descriptor -/

theorem test_wf_refuses_realm_without_rme : (Instr.rdEdprsr ⟨false, .realm⟩).wf configA = false := by decide

theorem test_wf_refuses_root_without_rme : (Instr.wrOslar 0 ⟨true, .root⟩).wf configA = false := by decide

theorem test_wf_admits_the_others :
    (Instr.rdEdprsr ext).wf configA = true ∧ (Instr.rdEdprsr sec).wf configA = true ∧
      (Instr.rdEdprsr ⟨false, .realm⟩).wf { configA with sys := { configA.sys with rme := true } } = true ∧
      (Instr.rdEdprsr ⟨false, .root⟩).wf { configA with sys := { configA.sys with rme := true } } = true := by decide

theorem test_configurations_obey_the_spec :
    configA.wf = true ∧ configA.idWf = true ∧ (configB configA).wf = true ∧
    ({ configA with idf := { configA.idf with pmuv3p4 := false }, dfr := { configA.dfr with pmuVer := 4 } } : Config).idWf =
      false := by decide

theorem test_step_refuses_ill_formed_access :
    step { s0 with inputs := [.access (encode (.rdEdprsr ⟨false, .realm⟩))] } = .refused .illFormedAccess := rfl

/-! ## Decoding -/

theorem test_decode_events :
    decodeTableWord 16 0b0_0000_0010_0000 = some (.rdEdesr ext) ∧
    decodeTableWord 16 0b1_0000_0010_0000 = some (.wrEdesr 0 ext) ∧
    decodeTableWord 16 0b0_0000_0010_0100 = some (.rdEdecr ext) ∧
    decodeTableWord 16 0b1_0000_0010_0100 = some (.wrEdecr 0 ext) ∧
    decodeTableWord 16 0b0_0000_0010_1000 = some (.rdEdscr2 ext) ∧
    decodeTableWord 16 0b1_0000_0010_1000 = some (.wrEdscr2 0 ext) ∧
    decodeTableWord 16 0b0_0000_0011_0000 = some (.rdEdwarLo ext) ∧
    decodeTableWord 16 0b1_0000_0011_0000 = some (.wrEdwarLo 0 ext) ∧
    decodeTableWord 16 0b0_0000_0011_0100 = some (.rdEdwarHi ext) ∧
    decodeTableWord 16 0b1_0000_0011_0100 = some (.wrEdwarHi 0 ext) ∧
    decodeTableWord 16 0b0_0000_0011_1000 = some (.rdEdhsrLo ext) ∧
    decodeTableWord 16 0b1_0000_0011_1000 = some (.wrEdhsrLo 0 ext) ∧
    decodeTableWord 16 0b0_0000_0011_1100 = some (.rdEdhsrHi ext) ∧
    decodeTableWord 16 0b1_0000_0011_1100 = some (.wrEdhsrHi 0 ext) := by decide

theorem test_decode_channel :
    decodeTableWord 16 0b0_0000_1000_0000 = some (.rdDbgdtrrx ext) ∧
    decodeTableWord 16 0b1_0000_1000_0000 = some (.wrDbgdtrrx 0 ext) ∧
    decodeTableWord 16 0b0_0000_1000_0100 = some (.rdEditr ext) ∧
    decodeTableWord 16 0b1_0000_1000_0100 = some (.wrEditr 0 ext) ∧
    decodeTableWord 16 0b0_0000_1000_1000 = some (.rdEdscr ext) ∧
    decodeTableWord 16 0b1_0000_1000_1000 = some (.wrEdscr 0 ext) ∧
    decodeTableWord 16 0b0_0000_1000_1100 = some (.rdDbgdtrtx ext) ∧
    decodeTableWord 16 0b1_0000_1000_1100 = some (.wrDbgdtrtx 0 ext) ∧
    decodeTableWord 16 0b0_0000_1001_0000 = some (.rdEdrcr ext) ∧
    decodeTableWord 16 0b1_0000_1001_0000 = some (.wrEdrcr 0 ext) ∧
    decodeTableWord 16 0b0_0000_1001_0100 = some (.rdEdacr ext) ∧
    decodeTableWord 16 0b1_0000_1001_0100 = some (.wrEdacr 0 ext) := by decide

theorem test_decode_sampling_and_power :
    decodeTableWord 16 0b0_0000_1001_1000 = some (.rdEdeccr ext) ∧
    decodeTableWord 16 0b1_0000_1001_1000 = some (.wrEdeccr 0 ext) ∧
    decodeTableWord 16 0b0_0000_1010_0000 = some (.rdEdpcsrLo ext) ∧
    decodeTableWord 16 0b1_0000_1010_0000 = some (.wrEdpcsrLo 0 ext) ∧
    decodeTableWord 16 0b0_0000_1010_0100 = some (.rdEdcidsr ext) ∧
    decodeTableWord 16 0b1_0000_1010_0100 = some (.wrEdcidsr 0 ext) ∧
    decodeTableWord 16 0b0_0000_1010_1000 = some (.rdEdvidsr ext) ∧
    decodeTableWord 16 0b1_0000_1010_1000 = some (.wrEdvidsr 0 ext) ∧
    decodeTableWord 16 0b0_0000_1010_1100 = some (.rdEdpcsrHi ext) ∧
    decodeTableWord 16 0b1_0000_1010_1100 = some (.wrEdpcsrHi 0 ext) ∧
    decodeTableWord 16 0b0_0011_0000_0000 = some (.rdOslar ext) ∧
    decodeTableWord 16 0b1_0011_0000_0000 = some (.wrOslar 0 ext) ∧
    decodeTableWord 16 0b0_0011_0001_0000 = some (.rdEdprcr ext) ∧
    decodeTableWord 16 0b1_0011_0001_0000 = some (.wrEdprcr 0 ext) ∧
    decodeTableWord 16 0b0_0011_0001_0100 = some (.rdEdprsr ext) ∧
    decodeTableWord 16 0b1_0011_0001_0100 = some (.wrEdprsr 0 ext) := by decide

theorem test_decode_breakpoints :
    decodeTableWord 16 0b0_0100_0000_0000 = some (.rdDbgbvrLo 0 ext) ∧
    decodeTableWord 16 0b1_0100_0001_0000 = some (.wrDbgbvrLo 1 0 ext) ∧
    decodeTableWord 16 0b0_0100_0101_0100 = some (.rdDbgbvrHi 5 ext) ∧
    decodeTableWord 16 0b1_0100_1111_0100 = some (.wrDbgbvrHi 15 0 ext) ∧
    decodeTableWord 16 0b0_0101_0000_1000 = some (.rdDbgbcrLo 16 ext) ∧
    decodeTableWord 16 0b1_0101_1111_1000 = some (.wrDbgbcrLo 31 0 ext) ∧
    decodeTableWord 16 0b0_0110_1010_1100 = some (.rdDbgbcrHi 42 ext) ∧
    decodeTableWord 16 0b1_0111_1111_1100 = some (.wrDbgbcrHi 63 0 ext) := by decide

theorem test_decode_watchpoints :
    decodeTableWord 16 0b0_1000_0000_0000 = some (.rdDbgwvrLo 0 ext) ∧
    decodeTableWord 16 0b1_1000_0001_0000 = some (.wrDbgwvrLo 1 0 ext) ∧
    decodeTableWord 16 0b0_1000_0101_0100 = some (.rdDbgwvrHi 5 ext) ∧
    decodeTableWord 16 0b1_1000_1111_0100 = some (.wrDbgwvrHi 15 0 ext) ∧
    decodeTableWord 16 0b0_1001_0000_1000 = some (.rdDbgwcrLo 16 ext) ∧
    decodeTableWord 16 0b1_1001_1111_1000 = some (.wrDbgwcrLo 31 0 ext) ∧
    decodeTableWord 16 0b0_1010_1010_1100 = some (.rdDbgwcrHi 42 ext) ∧
    decodeTableWord 16 0b1_1011_1111_1100 = some (.wrDbgwcrHi 63 0 ext) := by decide

theorem test_decode_features :
    decodeTableWord 16 0b0_1101_0000_0000 = some (.rdMidr ext) ∧
    decodeTableWord 16 0b1_1101_0000_0000 = some (.wrMidr 0 ext) ∧
    decodeTableWord 16 0b0_1101_0010_0000 = some (.rdEdpfrLo ext) ∧
    decodeTableWord 16 0b1_1101_0010_0000 = some (.wrEdpfrLo 0 ext) ∧
    decodeTableWord 16 0b0_1101_0010_0100 = some (.rdEdpfrHi ext) ∧
    decodeTableWord 16 0b1_1101_0010_0100 = some (.wrEdpfrHi 0 ext) ∧
    decodeTableWord 16 0b0_1101_0010_1000 = some (.rdEddfrLo ext) ∧
    decodeTableWord 16 0b1_1101_0010_1000 = some (.wrEddfrLo 0 ext) ∧
    decodeTableWord 16 0b0_1101_0010_1100 = some (.rdEddfrHi ext) ∧
    decodeTableWord 16 0b1_1101_0010_1100 = some (.wrEddfrHi 0 ext) ∧
    decodeTableWord 16 0b0_1101_0100_1000 = some (.rdEddfr1Lo ext) ∧
    decodeTableWord 16 0b1_1101_0100_1000 = some (.wrEddfr1Lo 0 ext) ∧
    decodeTableWord 16 0b0_1101_0100_1100 = some (.rdEddfr1Hi ext) ∧
    decodeTableWord 16 0b1_1101_0100_1100 = some (.wrEddfr1Hi 0 ext) ∧
    decodeTableWord 16 0b0_1101_0101_0000 = some (.rdEddfr2Lo ext) ∧
    decodeTableWord 16 0b1_1101_0101_0000 = some (.wrEddfr2Lo 0 ext) ∧
    decodeTableWord 16 0b0_1101_0101_0100 = some (.rdEddfr2Hi ext) ∧
    decodeTableWord 16 0b1_1101_0101_0100 = some (.wrEddfr2Hi 0 ext) := by decide

theorem test_decode_claim_and_integration :
    decodeTableWord 16 0b0_1101_0110_0000 = some (.rdEdaa32pfrLo ext) ∧
    decodeTableWord 16 0b1_1101_0110_0000 = some (.wrEdaa32pfrLo 0 ext) ∧
    decodeTableWord 16 0b0_1101_0110_0100 = some (.rdEdaa32pfrHi ext) ∧
    decodeTableWord 16 0b1_1101_0110_0100 = some (.wrEdaa32pfrHi 0 ext) ∧
    decodeTableWord 16 0b0_1111_0000_0000 = some (.rdEditctrl ext) ∧
    decodeTableWord 16 0b1_1111_0000_0000 = some (.wrEditctrl 0 ext) := by decide

theorem test_decode_affinity_and_locks :
    decodeTableWord 16 0b0_1111_1010_0000 = some (.rdDbgclaimset ext) ∧
    decodeTableWord 16 0b1_1111_1010_0000 = some (.wrDbgclaimset 0 ext) ∧
    decodeTableWord 16 0b0_1111_1010_0100 = some (.rdDbgclaimclr ext) ∧
    decodeTableWord 16 0b1_1111_1010_0100 = some (.wrDbgclaimclr 0 ext) ∧
    decodeTableWord 16 0b0_1111_1010_1000 = some (.rdEddevaff0 ext) ∧
    decodeTableWord 16 0b1_1111_1010_1000 = some (.wrEddevaff0 0 ext) ∧
    decodeTableWord 16 0b0_1111_1010_1100 = some (.rdEddevaff1 ext) ∧
    decodeTableWord 16 0b1_1111_1010_1100 = some (.wrEddevaff1 0 ext) ∧
    decodeTableWord 16 0b0_1111_1011_0000 = some (.rdEdlar ext) ∧
    decodeTableWord 16 0b1_1111_1011_0000 = some (.wrEdlar 0 ext) := by decide

theorem test_decode_device :
    decodeTableWord 16 0b0_1111_1011_0100 = some (.rdEdlsr ext) ∧
    decodeTableWord 16 0b1_1111_1011_0100 = some (.wrEdlsr 0 ext) ∧
    decodeTableWord 16 0b0_1111_1011_1000 = some (.rdDbgauthstatus ext) ∧
    decodeTableWord 16 0b1_1111_1011_1000 = some (.wrDbgauthstatus 0 ext) ∧
    decodeTableWord 16 0b0_1111_1011_1100 = some (.rdEddevarch ext) ∧
    decodeTableWord 16 0b1_1111_1011_1100 = some (.wrEddevarch 0 ext) ∧
    decodeTableWord 16 0b0_1111_1100_0000 = some (.rdEddevid2 ext) ∧
    decodeTableWord 16 0b1_1111_1100_0000 = some (.wrEddevid2 0 ext) ∧
    decodeTableWord 16 0b0_1111_1100_0100 = some (.rdEddevid1 ext) ∧
    decodeTableWord 16 0b1_1111_1100_0100 = some (.wrEddevid1 0 ext) ∧
    decodeTableWord 16 0b0_1111_1100_1000 = some (.rdEddevid ext) ∧
    decodeTableWord 16 0b1_1111_1100_1000 = some (.wrEddevid 0 ext) := by decide

theorem test_decode_components :
    decodeTableWord 16 0b0_1111_1100_1100 = some (.rdEddevtype ext) ∧
    decodeTableWord 16 0b1_1111_1100_1100 = some (.wrEddevtype 0 ext) ∧
    decodeTableWord 16 0b0_1111_1101_0000 = some (.rdEdpidr4 ext) ∧
    decodeTableWord 16 0b1_1111_1101_0000 = some (.wrEdpidr4 0 ext) ∧
    decodeTableWord 16 0b0_1111_1110_0000 = some (.rdEdpidr0 ext) ∧
    decodeTableWord 16 0b1_1111_1110_0000 = some (.wrEdpidr0 0 ext) ∧
    decodeTableWord 16 0b0_1111_1110_0100 = some (.rdEdpidr1 ext) ∧
    decodeTableWord 16 0b1_1111_1110_0100 = some (.wrEdpidr1 0 ext) ∧
    decodeTableWord 16 0b0_1111_1110_1000 = some (.rdEdpidr2 ext) ∧
    decodeTableWord 16 0b1_1111_1110_1000 = some (.wrEdpidr2 0 ext) ∧
    decodeTableWord 16 0b0_1111_1110_1100 = some (.rdEdpidr3 ext) ∧
    decodeTableWord 16 0b1_1111_1110_1100 = some (.wrEdpidr3 0 ext) ∧
    decodeTableWord 16 0b0_1111_1111_0000 = some (.rdEdcidr0 ext) ∧
    decodeTableWord 16 0b1_1111_1111_0000 = some (.wrEdcidr0 0 ext) ∧
    decodeTableWord 16 0b0_1111_1111_0100 = some (.rdEdcidr1 ext) ∧
    decodeTableWord 16 0b1_1111_1111_0100 = some (.wrEdcidr1 0 ext) ∧
    decodeTableWord 16 0b0_1111_1111_1000 = some (.rdEdcidr2 ext) ∧
    decodeTableWord 16 0b1_1111_1111_1000 = some (.wrEdcidr2 0 ext) ∧
    decodeTableWord 16 0b0_1111_1111_1100 = some (.rdEdcidr3 ext) ∧
    decodeTableWord 16 0b1_1111_1111_1100 = some (.wrEdcidr3 0 ext) := by decide

/-- A whole frame: key 0x1458, memory-mapped Secure descriptor, data 0x12345678 (notes/assumptions/2.md). -/
theorem test_decode_frame :
    decode [0x58, 0x14, 0x03, 0x78, 0x56, 0x34, 0x12] = .ok (.wrDbgbcrLo 5 0x12345678 ⟨true, .secure⟩, []) := by decide

/-- V7: offsets that no row has. -/
theorem test_decode_refuses_unlisted :
    [0x0000, 0x002C, 0x0304, 0x0D04, 0x0FDC].all (fun w => decodeTableWord 16 w = none) = true := by decide

/-- V8: a misaligned offset; and each other ill-formed frame, by its name. -/
theorem test_decode_refuses_by_name :
    decode [0x81, 0x00, 0x00, 0, 0, 0, 0] = .error .misaligned ∧
    decode [0x2C, 0x00, 0x00, 0, 0, 0, 0] = .error .unlistedOffset ∧
    decode [0x14, 0x23, 0x00, 0, 0, 0, 0] = .error .reservedKeyBits ∧
    decode [0x14, 0x03, 0x08, 0, 0, 0, 0] = .error .reservedDescriptor ∧
    decode [0x14, 0x03, 0x00, 1, 0, 0, 0] = .error .dataOnRead ∧
    decode [0x14, 0x03, 0x00, 0, 0, 0] = .error .truncated := by decide

/-! ## Identification (V20 to V24, V90 to V105, V165, V222) -/

theorem test_V20_V21_V22_authstatus :
    respOf (.rdDbgauthstatus ext) s0 = .okRead 0x000000FF ∧
    respOf (.rdDbgauthstatus ext) { s0 with auth := { s0.auth with secureInvasive := false } } = .okRead 0x000000AF ∧
    respOf (.rdDbgauthstatus ext) (withOsLock s0) = .okRead 0x000000FF ∧
    respOf (.rdDbgauthstatus ext) (coreOff s0B) = .error := by decide

theorem test_V90_cidr :
    respOf (.rdEdcidr0 ext) s0 = .okRead 0x0000000D ∧ respOf (.rdEdcidr1 ext) s0 = .okRead 0x00000090 ∧
    respOf (.rdEdcidr2 ext) s0 = .okRead 0x00000005 ∧ respOf (.rdEdcidr3 ext) s0 = .okRead 0x000000B1 := by decide

theorem test_V91_ident_writes_ignored :
    after (.wrEdcidr0 0xFFFFFFFF ext) s0 = { s0 with response := .okWrite } ∧
    after (.wrDbgauthstatus 0xFFFFFFFF ext) s0 = { s0 with response := .okWrite } := by decide

theorem test_V92_V93_V94_devarch_devtype :
    respOf (.rdEddevarch ext) s0 = .okRead 0x47709A15 ∧ respOf (.rdEddevarch ext) s0B = .okRead 0x4770BA15 ∧
    respOf (.rdEddevtype ext) s0 = .okRead 0x00000015 := by decide

theorem test_V95_V96_devaff_devid2 :
    respOf (.rdEddevaff0 ext) s0 = .okRead 0x80000102 ∧ respOf (.rdEddevaff1 ext) s0 = .okRead 0x00000000 ∧
    respOf (.rdEddevid2 ext) s0 = .okRead 0x00000000 := by decide

theorem test_V97_aa32pfr :
    respOf (.rdEdaa32pfrLo ext) s0 = .okRead 0 ∧ respOf (.rdEdaa32pfrHi ext) s0 = .okRead 0 := by decide

theorem test_V103_dfr1_cfgB :
    respOf (.rdEddfr1Lo ext) s0B = .okRead 0x000F1300 ∧ respOf (.rdEddfr1Hi ext) s0B = .okRead 0 := by decide

theorem test_V165_pidr :
    respOf (.rdEdpidr0 ext) s0 = .okRead 0x0000000C ∧ respOf (.rdEdpidr1 ext) s0 = .okRead 0x000000BD ∧
    respOf (.rdEdpidr2 ext) s0 = .okRead 0x0000002B ∧ respOf (.rdEdpidr3 ext) s0 = .okRead 0x00000000 ∧
    respOf (.rdEdpidr4 ext) s0 = .okRead 0x00000004 := by decide

theorem test_V222_midr : respOf (.rdMidr ext) s0 = .okRead 0x411FD0C2 := by decide

/-! ## Breakpoints and watchpoints (V4, V5, V25 to V39, V68 to V73, V240) -/

theorem test_V25_bcr_write : (after (.wrDbgbcrLo 0 0x000001E5 ext) s0).bcr 0 = 0x005 := by decide

/-- P6 line 4, with a linked type, so that LBN is known. -/
theorem test_P6_bcr_read_bas_ones :
    respOf (.rdDbgbcrLo 0 ext) (s0.setBcr 0 0x00110005) = .okRead 0x001101E5 := by decide

theorem test_V27_V28_bcr_errors :
    after (.wrDbgbcrLo 0 1 ext) (withOsLock s0) = { withOsLock s0 with response := .error } ∧
    (after (.wrDbgbcrLo 0 1 ext) (denied s0)).sticky.sdad = true ∧ respOf (.wrDbgbcrLo 0 1 ext) (denied s0) = .error ∧
    (after (.wrDbgbcrLo 0 1 ext) (withOsLock (denied s0))).sticky.sdad = false := by decide

theorem test_V29_sdad_seen_and_cleared :
    respOf (.rdEdprsr ext) (after (.wrDbgbcrLo 0 1 ext) (denied (noPmu s0))) = .okRead 0x00000181 ∧
    respOf (.rdEdprsr ext) (after (.rdEdprsr ext) (after (.wrDbgbcrLo 0 1 ext) (denied (noPmu s0)))) =
      .okRead 0x00000081 := by decide

theorem test_V30_V31_bcr_secure_and_locked :
    (after (.wrDbgbcrLo 0 1 sec) (denied s0)).bcr 0 = 1 ∧
    after (.wrDbgbcrLo 0 1 mm) (withSoftLock s0) = { withSoftLock s0 with response := .okWrite } := by decide

theorem test_V33_V35_absent_breakpoint :
    respOf (.rdDbgbcrLo 6 ext) s0 = .okRead 0 ∧
    after (.wrDbgbcrLo 6 0xFFFFFFFF ext) s0 = { s0 with response := .okWrite } ∧
    respOf (.rdDbgwvrHi 63 ext) s0 = .okRead 0 ∧ respOf (.rdDbgbcrHi 0 ext) s0 = .okRead 0 := by decide

theorem test_V36_bvr_address :
    respOf (.rdDbgbvrLo 0 ext) (after (.wrDbgbvrHi 0 0 ext) (after (.wrDbgbvrLo 0 0x00001003 ext) s0)) =
      .okRead 0x00001000 := by decide

theorem test_V37_bvr_ress :
    respOf (.rdDbgbvrLo 0 ext) (s0.setBvr 0 0x0001000000001000) = .okRead 0x00001000 ∧
    respOf (.rdDbgbvrHi 0 ext) (s0.setBvr 0 0x0001000000001000) = .okRead 0xFFFF0000 := by decide

theorem test_V38_bvr_context :
    (after (.wrDbgbvrLo 4 0x00000042 ext) (s0.setBcr 4 0x00300000)).bvr 4 = 0x42 := by decide

theorem test_V39_bcr_high_word :
    respOf (.rdDbgbcrHi 0 ext) (after (.wrDbgbcrHi 0 0xFFFFFFFF ext) s0B) = .okRead 0 := by decide

theorem test_V68_wcr_write : (after (.wrDbgwcrLo 0 0x00001FFD ext) s0).wcr 0 = 0x1FFD := by decide

theorem test_V70_wvr :
    (after (.wrDbgwvrLo 0 0x80000013 ext) s0).wvr 0 = 0x80000010 ∧
    respOf (.rdDbgwvrLo 0 ext) (s0.setWvr 0 0x80000010) = .okRead 0x80000010 ∧
    respOf (.rdDbgwvrHi 0 ext) (s0.setWvr 0 0x80000010) = .okRead 0 := by decide

theorem test_V71_V72_V73_wcr_edges :
    respOf (.rdDbgwcrLo 4 ext) s0 = .okRead 0 ∧ respOf (.rdDbgwcrHi 0 ext) s0 = .okRead 0 ∧
    respOf (.wrDbgwcrLo 0 1 ext) (withOsLock s0) = .error := by decide

/-- 40 R229: MASK 3 masks 0x7, MASK 12 masks 0xFFF, MASK 31 masks 0x7FFFFFFF (X1). -/
theorem test_X1_address_mask : addressMask 3 = 0x7 ∧ addressMask 12 = 0xFFF ∧ addressMask 31 = 0x7FFFFFFF := by decide

/-! ## CLAIM, DCC, ITR (V50 to V67, V132 to V137) -/

/-- CLAIM = 0b00000101. -/
def claimed : State := s0.setClaim 0b00000101

theorem test_V50_V51_V52_claimclr :
    respOf (.rdDbgclaimclr ext) claimed = .okRead 0x00000005 ∧
    (after (.wrDbgclaimclr 0x00000004 ext) claimed).dcc.claim = 0b00000001 ∧
    (after (.wrDbgclaimclr 0xFFFFFF00 ext) claimed).dcc.claim = 0b00000101 := by decide

theorem test_V53_V54_V57_claimset :
    respOf (.rdDbgclaimset ext) claimed = .okRead 0x000000FF ∧
    (after (.wrDbgclaimset 0xFFFFFF81 ext) s0).dcc.claim = 0b10000001 ∧
    (after (.wrDbgclaimset 1 mm) (withSoftLock s0)).dcc.claim = 0 ∧
    respOf (.wrDbgclaimset 1 ext) (withOsLock s0) = .error := by decide

/-- After V58: DTRRX full. -/
def rxFull : State := after (.wrDbgdtrrx 0x12345678 ext) s0

theorem test_V58_V59_dtrrx :
    rxFull.dcc.dtrrx = 0x12345678 ∧ rxFull.rxfull = true ∧
    (after (.wrDbgdtrrx 0x9ABCDEF0 ext) rxFull).dcc.dtrrx = 0x12345678 ∧
    (after (.wrDbgdtrrx 0x9ABCDEF0 ext) rxFull).rxo = true ∧
    (after (.wrDbgdtrrx 0x9ABCDEF0 ext) rxFull).err = true := by decide

theorem test_V60_V61_dtrrx_after_overrun :
    respOf (.rdDbgdtrrx ext) (after (.wrDbgdtrrx 0x9ABCDEF0 ext) rxFull) = .okRead 0x12345678 ∧
    (after (.wrDbgdtrrx 0x55555555 ext) (withEdscr 0x40 s0)).dcc.dtrrx = 0 := by decide

/-- V63: DTRTX full. -/
def txFull : State := withEdscr 0x20000000 { s0 with dcc := { s0.dcc with dtrtx := 0xCAFEF00D } }

theorem test_V63_V64_V65_dtrtx :
    respOf (.rdDbgdtrtx ext) txFull = .okRead 0xCAFEF00D ∧ (after (.rdDbgdtrtx ext) txFull).txfull = false ∧
    (after (.rdDbgdtrtx ext) s0).txu = true ∧ (after (.rdDbgdtrtx ext) s0).err = true ∧
    respOf (.rdDbgdtrtx mm) (withSoftLock txFull) = .okRead 0xCAFEF00D ∧
    (after (.rdDbgdtrtx mm) (withSoftLock txFull)).txfull = true := by decide

theorem test_V66_V67_dtrtx_write_and_error :
    (after (.wrDbgdtrtx 1 ext) s0).dcc.dtrtx = 1 ∧ (after (.wrDbgdtrtx 1 ext) s0).txfull = false ∧
    respOf (.rdDbgdtrtx ext) (denied s0) = .error ∧ (after (.rdDbgdtrtx ext) (denied s0)).sticky.sdad = true ∧
    respOf (.rdDbgdtrrx ext) (denied s0) = .okRead 0 := by decide

theorem test_V132_V133_itr :
    (after (.wrEditr 0xD503201F ext) (haltedExt s0)).dcc.itr = 0xD503201F ∧
    (after (.wrEditr 0xD503201F ext) (haltedExt s0)).ite = false ∧
    (after (.wrEditr 0x11111111 ext) (after (.wrEditr 0xD503201F ext) (haltedExt s0))).dcc.itr = 0xD503201F ∧
    (after (.wrEditr 0x11111111 ext) (after (.wrEditr 0xD503201F ext) (haltedExt s0))).ito = true ∧
    (after (.wrEditr 0x11111111 ext) (after (.wrEditr 0xD503201F ext) (haltedExt s0))).err = true := by decide

theorem test_V135_V137_itr_ignored :
    after (.wrEditr 0xD503201F ext) s0 = { s0 with response := .okWrite } ∧
    respOf (.wrEditr 0 ext) (withOsLock (haltedExt s0)) = .error := by decide

/-! ## Event control (V120 to V131, V138 to V140) -/

theorem test_V120_V121_V122_edeccr :
    respOf (.rdEdeccr ext) s0 = .okRead 0 ∧ (after (.wrEdeccr 0x00000808 ext) s0).ctl.edeccr = 0x808 ∧
    respOf (.wrEdeccr 0x00000808 ext) (withOsLock s0) = .error := by decide

theorem test_V123_V124_V125_edecr :
    respOf (.rdEdecr ext) (after (.wrEdecr 3 ext) s0) = .okRead 3 ∧
    (after (.wrEdecr 2 ext) (withOsLock s0)).ctl.edecr = 2 ∧
    (after (.wrEdecr 2 mm) (withSoftLock s0)).ctl.edecr = 0 := by decide

/-- EDESR with the given bits. -/
def withEdesr (w : Word) (s : State) : State := { s with ctl := { s.ctl with edesr := w } }

theorem test_V127_to_V131_edesr :
    (after (.wrEdesr 2 ext) (withEdesr 3 s0)).ctl.edesr = 1 ∧ (after (.wrEdesr 0 ext) (withEdesr 3 s0)).ctl.edesr = 3 ∧
    (after (.wrEdesr 0xF ext) s0).ctl.edesr = 0 ∧ respOf (.rdEdesr ext) (withOsLock (withEdesr 1 s0)) = .okRead 1 ∧
    (after (.wrEdesr 8 ext) (withEdesr 7 s0)).ctl.edesr = 7 := by decide

/-- A store of four bytes at 0x0000FFFF80001238. -/
def aStore : DataAccess :=
  { kind := .store, pc := ⟨0x1000, false⟩, first := 0x0000FFFF80001238, size := 4, aa32 := false, reported := 0x0000FFFF80001238, syndrome := 0 }

/-- Halted by watchpoint 3 on a store, on CFG-B. -/
def byWatchpoint : State := halted (.watchpoint 3 aStore 0) s0B

theorem test_V138_V139_edhsr :
    respOf (.rdEdhsrLo ext) byWatchpoint = .okRead 0x000E0040 ∧ respOf (.rdEdhsrHi ext) byWatchpoint = .okRead 0 ∧
    respOf (.rdEdhsrLo ext) s0 = .okRead 0 := by decide

theorem test_V220_edwar :
    respOf (.rdEdwarLo ext) byWatchpoint = .okRead 0x80001238 ∧
    respOf (.rdEdwarHi ext) byWatchpoint = .okRead 0x0000FFFF := by decide

theorem test_V6_V98_V140_absent_registers :
    respOf (.rdEditctrl ext) s0 = .okRead 0 ∧ respOf (.rdEdacr ext) s0 = .okRead 0 ∧
    after (.wrEditctrl 1 ext) s0 = { s0 with response := .okWrite } ∧ respOf (.rdEdscr2 ext) s0 = .okRead 0 := by decide

/-! ## Locks (V150 to V156, V223 to V227) -/

theorem test_V150_V151_edlsr :
    respOf (.rdEdlsr mm) (withSoftLock s0) = .okRead 3 ∧ respOf (.rdEdlsr ext) (withSoftLock s0) = .okRead 0 ∧
    respOf (.rdEdlsr mm) s0B = .okRead 0 := by decide

theorem test_V152_V153_V154_edlar :
    (after (.wrEdlar 0xC5ACCE55 mm) (withSoftLock s0)).lock.slk = false ∧
    (after (.wrEdlar 0xC5ACCE54 mm) s0).lock.slk = true ∧
    (after (.wrEdlar 0xC5ACCE55 ext) (withSoftLock s0)).lock.slk = true := by decide

theorem test_V223_V224_V225_oslar :
    (after (.wrOslar 0 ext) (withOsLock s0)).lock.oslk = false ∧
    (after (.wrOslar 0 ext) (withOsLock s0)).ctl.edesr = 0 ∧
    (after (.wrOslar 0 ext) (withOsLock { s0 with ctl := { s0.ctl with edecr := 1 } })).ctl.edesr = 1 ∧
    (after (.wrOslar 0xFFFFFFFF ext) s0).lock.oslk = true := by decide

theorem test_V226_V227_oslar_stopped :
    respOf (.wrOslar 0 ext) (withOsLock (denied s0)) = .error ∧
    (after (.wrOslar 0 ext) (withOsLock (denied s0))).sticky.sdad = true ∧
    (after (.wrOslar 0 mm) (withSoftLock (withOsLock s0))).lock.oslk = true := by decide

/-! ## Sampling (V157 to V164) -/

/-- The start of V157. -/
def sampled : State :=
  { s0 with
    sampleAddr := 0x0000FFFF80001000
    smp := { s0.smp with fresh := true }
    pe := { s0.pe with context := ⟨0x42, 0, 0⟩, vmid := 0x2A } }

theorem test_V157_V158_pcsr :
    respOf (.rdEdpcsrLo ext) sampled = .okRead 0x80001000 ∧
    respOf (.rdEdpcsrHi ext) (after (.rdEdpcsrLo ext) sampled) = .okRead 0x0000FFFF ∧
    (after (.rdEdpcsrLo ext) sampled).smp.fresh = false := by decide

theorem test_V158_edvidsr : respOf (.rdEdvidsr ext) (after (.rdEdpcsrLo ext) sampled) = .okRead 0x9000002A := by decide

theorem test_V160_V164_pcsr_no_sample :
    respOf (.rdEdpcsrLo ext) (haltedExt s0) = .okRead 0xFFFFFFFF ∧
    after (.rdEdpcsrLo ext) (withOsLock s0) = { withOsLock s0 with response := .error } ∧
    after (.wrEdpcsrLo 0xFFFFFFFF ext) s0 = { s0 with response := .okWrite } := by decide

theorem test_V161_pcsr_locked :
    respOf (.rdEdpcsrLo mm) (withSoftLock sampled) = .okRead 0x80001000 ∧
    (after (.rdEdpcsrLo mm) (withSoftLock sampled)).smp.pcsrHi = 0 ∧
    (after (.rdEdpcsrLo mm) (withSoftLock sampled)).smp.fresh = false := by decide

/-! ## Power and status (V180 to V199, V211 to V218) -/

theorem test_V180_V181_edprsr_after_reset :
    respOf (.rdEdprsr ext) (noPmu State.reset) = .okRead 0x0000002B ∧
    respOf (.rdEdprsr ext) (after (.rdEdprsr ext) (noPmu State.reset)) = .okRead 0x00000021 ∧
    respOf (.rdEdprsr mm) (after (.rdEdprsr mm) (noPmu State.reset)) = .okRead 0x0000002B := by decide

theorem test_V183_V184_V188_edprsr :
    respOf (.rdEdprsr ext) (haltedExt (noPmu s0)) = .okRead 0x00000011 ∧
    respOf (.rdEdprsr ext) { noPmu s0 with sticky := { s0.sticky with sdr := true } } = .okRead 0x00000801 ∧
    after (.wrEdprsr 0xFFFFFFFF ext) s0 = { s0 with response := .okWrite } ∧
    respOf (.rdEdprsr ext) (coreOff s0B) = .error := by decide

theorem test_V189_to_V193_edprcr :
    (after (.wrEdprcr 8 ext) (coreOff s0)).ctl.edprcr = 8 ∧
    (after (.wrEdprcr 2 ext) s0).power.warmResetRequest = true ∧
    respOf (.rdEdprcr ext) (after (.wrEdprcr 2 ext) s0) = .okRead 0 ∧
    after (.wrEdprcr 3 ext) (withOsLock s0) = { withOsLock s0 with response := .okWrite } ∧
    after (.wrEdprcr 0xB mm) (withSoftLock s0) = { withSoftLock s0 with response := .okWrite } := by decide

theorem test_V194_to_V199_edrcr :
    (after (.wrEdrcr 4 ext) (withEdscr 0x0A000040 s0)).ctl.edscr = 0x02000002 ∧
    (after (.wrEdrcr 0xC ext) (withEdscr 0x0A000040 s0)).ctl.edscr = 0x00000002 ∧
    respOf (.wrEdrcr 4 ext) (withOsLock s0) = .error ∧
    after (.wrEdrcr 4 mm) (withSoftLock s0) = { withSoftLock s0 with response := .okWrite } ∧
    (after (.wrEdrcr 0x10 ext) s0).hal.imprecise = false := by decide

theorem test_V211_V212_V213_edscr_read :
    respOf (.rdEdscr ext) (haltedExt (withEdscr 0x4000 s0)) = .okRead 0x01047D13 ∧
    respOf (.rdEdscr ext) (haltedExt (withEdscr 0x40004000 s0)) = .okRead 0x41047D13 ∧
    respOf (.rdEdscr ext) (haltedExt (withEdscr 0x24004040 s0)) = .okRead 0x25047D53 := by decide

theorem test_V214_V215_V217_edscr_write :
    (after (.wrEdscr 0x00004000 ext) s0).ctl.edscr = 0x00004002 ∧
    (after (.wrEdscr 0xFFFFFFFF ext) s0).ctl.edscr = 0x00784002 ∧
    after (.wrEdscr 0x00004000 mm) (withSoftLock s0) = { withSoftLock s0 with response := .okWrite } ∧
    respOf (.rdEdscr ext) (withOsLock s0) = .error := by decide

theorem test_edscr2_write_under_software_lock : (after (.wrEdscr2 0xFFFFFFFF ext) s0B).ctl.edscr2 = 8 := by decide

/-! ## The other agents (V126, V134, V242 to V247) -/

theorem test_V126_V246_warm_reset :
    (agentStep .warmReset { s0 with ctl := { s0.ctl with edecr := 2 } }).ctl.edesr = 2 ∧
    (agentStep .warmReset s0).sticky.sr = true ∧ (agentStep .warmReset s0).power.inReset = true := by decide

theorem test_V242_V243_halting :
    (agentStep (.enterDebug (.breakpoint 0 ⟨0, false⟩ 0)) (withEdscr 0x4000 (s0.setBcr 0 1))).status = 0x07 ∧
    (agentStep (.takePending .rc .normal) (withEdesr 2 s0)).status = 0x27 ∧
    (agentStep (.takePending .rc .normal) (withEdesr 2 s0)).ctl.edesr = 0 := by decide

theorem test_V134_V244_restart :
    (agentStep .restartRequest (haltedExt s0)).status = 0x01 ∧
    (agentStep .exitDebug (agentStep .restartRequest (haltedExt s0))).status = 0x02 ∧
    (agentStep .exitDebug (agentStep .restartRequest (haltedExt s0))).sticky.sdr = true ∧
    (agentStep .exitDebug (agentStep .restartRequest (haltedExt s0))).hal.halted = false := by decide

/-- BAS reads 1 whatever is stored where it is RES1: without FEAT_AA32, and for a context type with it (40 R235). A stored
RES0 bit holds what was written (00 R14), and is none of the stored fields a Cold reset makes UNKNOWN (70 R861). -/
theorem test_reserved_positions :
    let stored := withCfg (fun c => { c with opt := { c.opt with res0Storage := true } }) s0
    let aa64Only := withCfg (fun c => { c with dbg := { c.dbg with aa32 := false } }) stored
    readBcrLo 0 (aa64Only.setBcr 0 0x00100000) = 0x001001E0 ∧
      bcrRes1 { s0.cfg with dbg := { s0.cfg.dbg with aa32 := true } } 0b0010 = 0x1E0 ∧
      (after (.wrDbgwvrLo 0 3 ext) stored).wvr 0 = 3 ∧ wvrFields stored.cfg &&& 3 = 0 := by decide

/-! ### Which events are taken (44 R473 to R503, 60 R805, R815; 70 R865) -/

/-- HDE set, breakpoint 0 enabled at 0x1000 under the control word `bcr`. -/
def breakAt (bcr : Dword) : State := withEdscr 0x4000 ((s0.setBcr 0 bcr).setBvr 0 0x1000)

/-- The PE halts by breakpoint 0 at `pc`. -/
def breaks (bcr : Dword) (pc : Dword) (s : State := breakAt bcr) : Bool :=
  (agentStep (.enterDebug (.breakpoint 0 ⟨pc, false⟩ (stateControl s.cfg bcr))) s).hal.halted

/-- 40 R229, R231: the address of the type 0b0000, inverted by 0b0100 (with FEAT_BWE), masked by MASK; E 0 disables. -/
theorem test_breakpoint_address :
    breaks 0x001 0x1000 = true ∧ breaks 0x001 0x1004 = false ∧ breaks 0x000 0x1000 = false ∧
    breaks 0x0C4001E1 0x1FFC (withCfg configB (breakAt 0x0C4001E1)) = false ∧
    breaks 0x0C4001E1 0x2000 (withCfg configB (breakAt 0x0C4001E1)) = true ∧
    breaks 0x0C0001E1 0x1FFC (withCfg configB (breakAt 0x0C0001E1)) = true ∧
    breaks 0x0C0001E1 0x2000 (withCfg configB (breakAt 0x0C0001E1)) = false := by decide

/-- 41 R330: LSC 0b01 selects loads, 0b10 stores; the address test by BAS (R329): bytes 8 to 11 of the doubleword. -/
theorem test_watchpoint_access :
    let at_ := fun (wcr : Dword) (a : DataAccess) =>
      (withEdscr 0x4000 ((s0.setWcr 3 wcr).setWvr 3 0x0000FFFF80001238)).watchpointEnabled 3 a 0
    at_ 0x1FF1 aStore = true ∧ at_ 0x1FE9 aStore = false ∧ at_ 0x1FE9 { aStore with kind := .load } = true ∧
    at_ 0x1FF1 { aStore with first := 0x0000FFFF80001240, reported := 0x0000FFFF80001240 } = false ∧
    at_ 0x1E11 aStore = false := by decide

/-- 44 R510, R515, R514, 47 R760: the address for EDWAR is one accessed where FnP is 0 (always, without EDHSR, and without
FEAT_SVE and FEAT_SME); with FnP in the smallest translation granule of the access; WPF loosens neither. -/
theorem test_reported_address :
    let at_ := fun (edhsr sve : Bool) (syndrome reported : Dword) =>
      let c := fun (c : Config) => { c with dbg := { c.dbg with edhsr := edhsr }, sys := { c.sys with sve := sve } }
      (withEdscr 0x4000 (((withCfg c s0).setWcr 3 0x1FF1).setWvr 3 0x0000FFFF80001238)).watchpointEnabled 3
        { aStore with syndrome := syndrome, reported := reported } 0
    at_ false false 0 0x0000FFFF80001230 = false ∧ at_ false false 0 0x0000FFFF8000123B = true ∧
    at_ true false 0x8000 0x0000FFFF80001230 = false ∧ at_ true false 0 0x0000FFFF80001238 = true ∧
    at_ true true 0x10000 0x0000FFFF80001240 = false ∧ at_ true true 0x8000 0x0000FFFF80001FFF = true ∧
    at_ true true 0x8000 0x0000FFFF80002000 = false ∧ at_ true true 0x400 0 = true := by decide

/-- 40 R231, R246: with EL2 using AArch32 the VMID is 8 bits, compared with VTTBR_EL2.VMID. -/
theorem test_vmid_aarch32 :
    let s := { s0 with pe := { s0.pe with vmid := 0x12A, vmid32 := 0x55, el2AA64 := false } }
    (s.setBvr 5 0x2A00000000).vmidMatches 5 = true ∧ (s.setBvr 5 0x5500000000).vmidMatches 5 = false := by decide

/-- 41 R334, 40 R236: a watchpoint linked to an address breakpoint (BT2 1) needs the instruction to match it. -/
theorem test_linked_watchpoint :
    let c := fun (c : Config) =>
      { c with dbg := { c.dbg with able := true, bwe := true }, pe := { c.pe with numAblCmp := 2 } }
    let at_ := fun (bvr : Dword) =>
      (withEdscr 0x4000 ((((withCfg c s0).setBcr 0 0x9).setBvr 0 bvr).setWcr 3 0x101FF1
        |>.setWvr 3 0x0000FFFF80001238)).watchpointEnabled 3 aStore 0
    at_ 0x1000 = true ∧ at_ 0x2000 = false := by decide

/-- 47 R712, 60 R815 d: with TDA set an access to a breakpoint register halts the PE and stores nothing; halting not
allowed, it stores. -/
theorem test_tda_traps :
    let s := withEdscr 0x00200000 s0
    (agentStep (.sysWrite (.dbgbcr 0) 1) s).status = 0x33 ∧ (agentStep (.sysWrite (.dbgbcr 0) 1) s).bcr 0 = 0 ∧
    (agentStep (.sysWrite (.dbgbcr 0) 1) { s with env := { s.env with haltingAllowed := false } }).bcr 0 = 1 ∧
    (agentStep (.sysWrite .claimSet 1) s).dcc.claim = 1 := by decide

/-- 70 R865: out of reset with RCE set, the Reset Catch comes before any other step of the PE. -/
theorem test_reset_catch_first :
    let s := { withEdesr 2 s0 with power := { s0.power with inReset := true } }.leaveReset
    s.hal.resetCatchDue = true ∧ (agentStep (.branchRetired 4) s).sampleAddr = s.sampleAddr ∧
    (agentStep (.enterDebug .externalRequest) s).hal.halted = false ∧
    (agentStep (.takePending .rc .normal) s).status = 0x27 := by decide

/-- 60 R809: once halting was not allowed the Reset Catch no longer comes before other events. -/
theorem test_reset_catch_lapses :
    let s := { withEdesr 2 s0 with power := { s0.power with inReset := true } }.leaveReset
    let t := agentStep (.setEnv s0.env) (agentStep (.setEnv { s0.env with haltingAllowed := false }) s)
    (agentStep (.branchRetired 4) t).sampleAddr = 4 ∧ t.isPending .rc = true := by decide

/-- 44 R473, R503 c: an Exception Catch becomes pending only if EDECCR enables it, and halting is not allowed. -/
theorem test_exception_catch_pending :
    let off := fun (s : State) => { s with env := { s.env with haltingAllowed := false } }
    let caught := fun (s : State) => { s with ctl := { s.ctl with edeccr := 0x20 } }
    (agentStep (.eventPending (.exceptionCatch 1 .nonSecure .entry)) (off s0B)).ctl.edesr = 0 ∧
    (agentStep (.eventPending (.exceptionCatch 1 .nonSecure .entry)) (caught (off s0B))).ctl.edesr = 8 ∧
    (agentStep (.eventPending (.exceptionCatch 1 .nonSecure .entry)) (caught s0B)).ctl.edesr = 0 := by decide

/-- 44 R479: EDECCR 0x808 (SE3, SR3) catches entry to EL3 and no return, 0x4000 (NSR2) returns to Non-secure EL2 alone;
without FEAT_Debugv8p2 SE3 is coarse, and SR3 is no field. -/
theorem test_exception_catch_table :
    let on := fun (c : Config) (w : Word) (el : BitVec 2) (ss : SecState) (kind : CatchKind) =>
      ({ s0 with cfg := c, ctl := { s0.ctl with edeccr := w } } : State).eventEnabled (.exceptionCatch el ss kind)
    let coarse : Config := { configA with dbg := { configA.dbg with debugv8p2 := false } }
    on configA 0x808 3 .secure .entry = true ∧ on configA 0x808 3 .secure .ret = false ∧
    on configA 0x4000 2 .nonSecure .ret = true ∧ on configA 0x4000 2 .nonSecure .entry = false ∧
    on configA 0x4000 2 .secure .ret = false ∧ on coarse 0x808 3 .secure .ret = true ∧
    on coarse 0x800 3 .secure .ret = false := by decide

/-! ### The PE's inputs and views (10 R49, 40 R222, 44 R534, 47 R711, R715) -/

/-- An implementation with both Execution states, the PE at EL1 in AArch32 state. -/
def inAA32 (s : State) : State :=
  { withCfg (fun c => { c with dbg := { c.dbg with aa32 := true } }) s with pe := { s.pe with el1AA64 := false } }

/-- 10 R49: DBGWVR<n> of AArch32 state is bits [31:0]; DBGBXVR<n> is bits [63:32] of DBGBVR<n>_EL1; the AArch64 view is
out of reach there. -/
theorem test_aarch32_views :
    (agentStep (.sysWrite (.dbgwvr32 0) 0xFFFFFFFF00001234) (inAA32 s0)).wvr 0 = 0x1234 ∧
    (agentStep (.sysWrite (.dbgbxvr 0) 0x2A) ((inAA32 s0).setBcr 0 0x00900000)).bvr 0 = 0x2A00000000 ∧
    agentStep (.sysWrite (.dbgwvr 0) 0x1234) (inAA32 s0) = inAA32 s0 := by decide

/-- 10 R49: MDSCR_EL1 writes EDSCR2, DBGDSCRext does not. -/
theorem test_mdscr_edscr2 :
    (agentStep (.writeMdscr 0 true true) (withOsLock s0B)).ctl.edscr2 = 8 ∧
    (agentStep (.writeMdscr 0x40 true true) (withOsLock (inAA32 s0B))).ctl.edscr2 = 0 ∧
    (agentStep (.writeMdscr 0x40 true true) (withOsLock (inAA32 s0B))).ctl.edscr.getLsbD 6 = true := by decide

/-- 44 R534: in AArch32 state the word is a T32 instruction, hw1 first. -/
theorem test_itr_format :
    ({ inAA32 s0 with dcc := { s0.dcc with itr := 0x8000F3AF } } : State).itrInstruction = .t32 0xF3AF 0x8000 ∧
    ({ s0 with dcc := { s0.dcc with itr := 0xD503201F } } : State).itrInstruction = .a64 0xD503201F := by decide

/-- 47 R711 b: INTdis 0b01 masks what is taken to Non-secure state, and to Secure state if Secure debug is enabled. -/
theorem test_intdis_masks :
    let s := withEdscr 0x00400000 s0
    s.interruptsMasked .nonSecure 2 = true ∧ s.interruptsMasked .secure 1 = true ∧
    ({ s with auth := { s.auth with secureInvasive := false } } : State).interruptsMasked .secure 1 = false ∧
    ({ s with auth := { s.auth with invasive := false } } : State).interruptsMasked .nonSecure 1 = false ∧
    s0.interruptsMasked .nonSecure 1 = false := by decide

/-- 40 R222, 47 R715: inputs that the implementation cannot have do not arise. -/
theorem test_illegal_inputs :
    agentStep (.setAuth { s0.auth with noninvasive := false }) s0 = s0 ∧
    agentStep (.setPe { s0.pe with ss := .realm }) s0 = s0 ∧
    (agentStep (.setAuth { s0.auth with secureInvasive := false }) s0).earlierAuth = [s0.auth] := by decide

/-- 93_implementation_defined.md U74, 42 R356, 43 R433, R438, R447, 45 R578, R582, R585, 47 R767: parameters that no implementation has. -/
theorem test_ident_parameters_refused :
    ({ configA with pfr := { configA.pfr with el3 := 0 } } : Config).idWf = false ∧
    ({ configA with ident := { configA.ident with midr := 0x411ED0C2 &&& 0xFFF0FFFF } } : Config).idWf = false ∧
    ({ configA with ident := { configA.ident with midr := 0x41107020 } } : Config).idWf = true ∧
    ({ configA with dfr := { configA.dfr with pmuVer := 0 } } : Config).idWf = false ∧
    ({ configA with idf := { configA.idf with trbev1p1 := true } } : Config).idWf = false ∧
    ({ configA with pfr := { configA.pfr with aa32VMSA := 15, aa32MsaFrac := 1 } } : Config).idWf = false ∧
    ({ configA with pfr := { configA.pfr with fp := 15, advSIMD := 15 }, idf := { configA.idf with fp16 := true } } :
      Config).idWf = false ∧
    ({ configA with pfr := { configA.pfr with amu := 1 }, idf := { configA.idf with amuv1 := true } } : Config).idWf = true ∧
    ({ configA with
        dbg := { configA.dbg with debugv8p1 := false }, pfr := { configA.pfr with amu := 1 },
        idf := { configA.idf with amuv1 := true } } : Config).idWf = false ∧
    ({ configA with dfr := { configA.dfr with dfr1CtxCmps := true } } : Config).wf = false ∧
    ({ configA with sys := { configA.sys with secureFeat := false } } : Config).wf = false := by decide

theorem test_V245_V247_resets :
    (agentStep .externalDebugReset s0).lock.slk = true ∧ (agentStep .coldReset claimed).dcc.claim = 0 ∧
    (agentStep .coldReset s0).lock.oslk = true ∧ (agentStep .coldReset s0).sticky.spd = true := by decide

/-! ## The step -/

theorem test_step_runs_first_transaction : ∃ t, step (State.reset.withFetchWord 16 0x0FB8) = .next t ∧
    t.response = .okRead 0x000000FF := ⟨_, rfl, by decide⟩

theorem test_step_refuses_unlisted : step (State.reset.withFetchWord 16 0x002C) = .refused .unlistedOffset := rfl

theorem test_step_faults_in_integration_mode :
    step { s0 with
      cfg := { s0.cfg with has := { s0.cfg.has with editctrl := true } }
      ctl := { s0.ctl with editctrl := 1 } } = .fault .integrationMode := rfl

/-! ## Witnesses of the obligations' hypotheses -/

theorem witness_EncodeDecode :
    decode [0x14, 0x03, 0x00, 0, 0, 0, 0, 0xAA] = .ok (.rdEdprsr ext, [0xAA]) := by decide

/-- The boundary offsets: misaligned at both ends, the last unlisted offset before the arrays, the first and last of the
arrays and of the map. -/
theorem witness_DecoderRefusesByName :
    (0x001 : BitVec 12).extractLsb' 0 2 ≠ 0 ∧ (0xFFF : BitVec 12).extractLsb' 0 2 ≠ 0 ∧
    (0x3FC : BitVec 12).extractLsb' 0 2 = 0 ∧ listed 0x3FC = false ∧ listed 0x400 = true ∧ listed 0xBFC = true ∧
    listed 0xC00 = false ∧ listed 0x020 = true ∧ listed 0xFFC = true ∧ listed 0x000 = false ∧
    (0x1400 : BitVec 16).getLsbD 12 = true ∧ (0x0400 : BitVec 16).getLsbD 12 = false ∧
    (0x1FFC : BitVec 16).extractLsb' 13 3 = 0 ∧ (0x07 : Byte).extractLsb' 3 5 = 0 := by decide

/-- A transaction waiting, and an agent's step waiting. -/
def waiting (e : Event) (s : State) : State := { s with inputs := [e] }

/-- The state after a frame of the transaction. -/
def framed (i : Instr) (s : State) : State :=
  match step (waiting (.access (encode i)) s) with
  | .next t => t
  | _ => s

/-- 70 R888: the write that disables an enabled breakpoint leaves the enabled one for the PE to see, until the next context
synchronization event. -/
theorem test_disabled_breakpoint_seen_late :
    let s := framed (.wrDbgbcrLo 0 0 ext) (breakAt 1)
    s.bcr 0 = 0 ∧ s.lateControls = [(.bcr 0, 1)] ∧ s.visible (.bcr 0) = [0, 1] ∧
    (agentStep .contextSync s).lateControls = [] := by decide

/-- 20_memory.md R151, 60_exceptions.md R801: a write that is ignored, or returns ERROR, or changes nothing, leaves nothing
to see late; nor does a read, or a write of a register that is no control. -/
theorem test_no_effect_leaves_nothing_late :
    (framed (.wrDbgbcrLo 0 0 mm) (withSoftLock (breakAt 1))).lateControls = [] ∧
    (framed (.wrDbgbcrLo 0 0 ext) (denied (breakAt 1))).lateControls = [] ∧
    (framed (.wrDbgbcrLo 0 1 ext) (breakAt 1)).lateControls = [] ∧
    (framed (.rdEdprsr ext) (breakAt 1)).lateControls = [] ∧
    (framed (.wrDbgclaimset 1 ext) (breakAt 1)).lateControls = [] := by decide

/-- 20_memory.md R161: what PE software writes itself it sees as written, in the bits that it wrote; so with OSLAR_EL1. -/
theorem test_own_write_settles :
    let s := framed (.wrDbgbcrLo 0 0 ext) (framed (.wrDbgbvrLo 0 0x2000 ext) (breakAt 1))
    s.lateControls = [(.bcr 0, 1), (.bvr 0, 0x1000)] ∧
    ((s.sysRegWritten (.dbgbcr 0) 0x2000).settle (SysReg.written (.dbgbcr 0))).lateControls =
      [(.bcr 0, 0x2000), (.bvr 0, 0x1000)] ∧
    (agentStep (.sysWrite .oslar 0) (framed (.wrOslar 1 ext) s0)).lateControls = [(.oslk, 0)] := by decide

/-- 47 R713: an MA of 1 that was written in Non-debug state is 0 for the PE once it has entered Debug state; the rest of
EDSCR may still be seen as it was. -/
theorem test_debug_entry_settles_ma :
    let s := framed (.wrEdscr 0 ext) (withEdscr 0x00104000 s0)
    s.lateControls = [(.edscr, 0x00104000)] ∧ (haltedExt s).lateControls = [(.edscr, 0x4000)] := by decide

/-- 44 R483, 70 R863: an External debug reset clears EDECR.SS for the PE too. -/
theorem test_external_debug_reset_settles_edecr :
    (agentStep .externalDebugReset (framed (.wrEdecr 0 ext) (after (.wrEdecr 4 ext) s0))).lateControls = [(.edecr, 0)] := by
  decide

/-- 70 R888: where the draw falls on the value from before, the PE sees the breakpoint as it was. -/
theorem test_seen_late (s : State) (n : Index) (v : Dword) (h : s.lateControls = [(.bcr n, v)])
    (draw : (s.free64 (.late (.bcr n))).toNat % 2 = 1) : s.seen.bcr n = v := by
  simp [State.seen, State.seenOf, State.visible, State.bcr, h, draw]

theorem witness_StepRunsDecodedAccess :
    (waiting (.access [0x14, 0x03, 0x00, 0, 0, 0, 0]) s0).voided = none ∧
    decode [0x14, 0x03, 0x00, 0, 0, 0, 0] = .ok (.rdEdprsr ext, []) ∧ (Instr.rdEdprsr ext).wf s0.cfg = true ∧
    writtenControl (.rdEdprsr ext) = none ∧ writtenControl (.wrEdscr 0 ext) = some .edscr ∧
    (after (.wrEdscr 0x4000 ext) s0).control .edscr ≠ s0.control .edscr ∧
    (after (.wrEdscr 0 ext) s0).control .edscr = s0.control .edscr := by decide

theorem witness_StepTakesAgentSteps :
    (waiting (.agent .warmReset) s0).voided = none ∧ (waiting (.agent .warmReset) s0).inputs = .agent .warmReset :: [] ∧
    s0.voided = none ∧ s0.inputs = [] := by decide

/-- EDITCTRL and EDACR implemented. -/
def optional (s : State) : State :=
  withCfg (fun c => { c with has := { c.has with editctrl := true, edacr := true } }) s

theorem witness_StepStopsWhenVoid :
    (optional s0).cfg.has.editctrl = true ∧
    ({ (optional s0).ctl with editctrl := 1 } : ControlRegs).editctrl.getLsbD 0 = true ∧
    (optional s0).ctl.editctrl.getLsbD 0 = false ∧ (optional s0).cfg.has.edacr = true ∧
    ({ (optional s0).ctl with edacr := 1 } : ControlRegs).edacr ≠ (optional s0).acrReset := by decide

theorem witness_ErrorsChangeOnlySdad :
    (∃ t, exec (.wrDbgbcrLo 0 1 ext) (denied s0) = .next t ∧ t.response = .error) ∧
    (∃ t, exec (.rdOslar ext) (coreOff s0) = .next t ∧ t.response = .error) ∧
    (∃ t, exec (.rdEdscr ext) (withOsLock s0) = .next t ∧ t.response = .error) :=
  ⟨⟨_, rfl, by decide⟩, ⟨_, rfl, by decide⟩, ⟨_, rfl, by decide⟩⟩

theorem witness_SoftwareLockFreezesTheBlock :
    (withSoftLock s0).softLock mm = true ∧ passesSoftwareLock (.wrEdscr 0 mm) = false ∧
    (∃ t, exec (.wrEdscr 0 mm) (withSoftLock s0) = .next t ∧ t.response ≠ .error) :=
  ⟨by decide, by decide, ⟨_, rfl, by decide⟩⟩

theorem witness_AccessesLeaveThePe : ∃ t, exec (.wrEdscr 0x4000 ext) s0 = .next t := ⟨_, rfl⟩

theorem witness_LocksMoveOnlyThroughTheirRegisters :
    (∃ t, exec (.wrEdlar 0xC5ACCE55 mm) (withSoftLock s0) = .next t ∧ t.lock.slk ≠ (withSoftLock s0).lock.slk) ∧
    (∃ t, exec (.wrOslar 1 ext) s0 = .next t ∧ t.lock.oslk ≠ s0.lock.oslk) :=
  ⟨⟨_, rfl, by decide⟩, ⟨_, rfl, by decide⟩⟩

theorem witness_StepKeepsStatusCoherent :
    StatusCoherent (waiting (.agent .restartRequest) (haltedExt s0)) ∧
    (∃ t, step (waiting (.agent .restartRequest) (haltedExt s0)) = .next t) ∧ StatusCoherent s0 ∧
    (∃ t, step (waiting (.access (encode (.wrEdscr 0x4000 ext))) s0) = .next t) :=
  ⟨by decide, ⟨_, rfl⟩, by decide, ⟨_, rfl⟩⟩

theorem witness_StepKeepsReservedClear :
    PlainStorage s0 ∧ ReservedClear s0 ∧ ∃ t, step (waiting (.access (encode (.wrEdeccr 0xFFFFFFFF ext))) s0) = .next t :=
  ⟨by decide, by intro _ k _; simp [s0, State.reset], ⟨_, rfl⟩⟩

theorem witness_StepKeepsConfiguration :
    (∃ t, step (waiting (.agent .coldReset) s0) = .next t) ∧ LegalInputs s0 ∧ LegalInputs State.reset :=
  ⟨⟨_, rfl⟩, by decide, by decide⟩

/-- An authentication that differs and one that s0's implementation cannot have; a Security state that it has and one that
it lacks. -/
theorem witness_StepKeepsConfiguration_inputs :
    ({ s0.auth with invasive := false } : Auth).noninvasive = true ∧ { s0.auth with invasive := false } ≠ s0.auth ∧
    s0.cfg.dbg.debugv8p4 = true ∧ s0.cfg.pe.nonSecureImpl = true ∧
    ({ s0.auth with noninvasive := false } : Auth).noninvasive = false ∧ LegalView s0.cfg s0.pe ∧
    ¬LegalView s0.cfg { s0.pe with ss := .realm } := by decide

theorem witness_DebugStateIsEnteredOnlyByHalting :
    s0.hal.halted = false ∧ (agentStep (.enterDebug .hltInstruction) (withEdscr 0x4000 s0)).hal.halted = true ∧
    (agentStep (.takePending .rc .normal) (withEdesr 2 s0)).hal.halted = true ∧
    (agentStep (.sysWrite (.dbgbcr 0) 1) (withEdscr 0x00200000 s0)).hal.halted = true ∧
    (agentStep (.enterDebug (.breakpoint 0 ⟨0x1000, false⟩ 0)) (breakAt 1)).hal.halted = true ∧
    ResetCatchFirst { withEdesr 2 s0 with hal := { s0.hal with resetCatchDue := true } } ∧
    (agentStep (.takePending .rc .normal)
      { withEdesr 2 s0 with hal := { s0.hal with resetCatchDue := true } }).hal.halted = true ∧
    (agentStep (.enterDebug (.watchpoint 3 { aStore with first := 0, reported := 0 } 0))
      (withEdscr 0x4000 (s0.setWcr 3 0x1FF9))).hal.halted = true := by decide

theorem witness_CoreSightIdentReads :
    s0.cfg.has.coreSightID = true ∧ Reachable s0 ∧ s0B.cfg.has.coreSightID = true ∧ ¬Reachable (coreOff s0B) := by decide

theorem witness_DeviceIdentReads :
    s0.cfg.has.coreSightID = true ∧ Reachable s0 ∧ Reachable (coreOff s0) ∧ ¬Reachable (coreOff s0B) := by decide

theorem witness_AuthStatusRead : Reachable s0 ∧ ¬Reachable (coreOff s0B) := by decide

theorem witness_IdentWritesIgnored :
    Reachable s0 ∧ ¬Reachable (coreOff s0B) ∧ s0.cfg.has.coreSightID = true := by decide

theorem witness_FeatureWritesIgnored :
    CoreOn s0 ∧ s0.osLock = false ∧ CoreOn (withOsLock s0B) ∧ dfr1 (withOsLock s0B) ≠ 0 ∧
    CoreOn s0B ∧ s0B.osLock = false ∧ ¬Reachable (coreOff s0B) := by decide

theorem witness_ProcessorFeatureReads :
    CoreOn s0 ∧ CoreOn (withOsLock s0) ∧ ¬Reachable (coreOff s0B) := by decide

theorem witness_DebugFeatureReads :
    s0.cfg.wf = true ∧ CoreOn s0 ∧ CoreOn (withOsLock s0) ∧ s0B.cfg.wf = true ∧ CoreOn (withOsLock s0B) ∧
    respOf (.rdEddfr1Lo ext) (withOsLock s0B) = .okRead 0x000F1300 ∧ respOf (.rdEddfr2Lo ext) s0B = .okRead 0 ∧
    s0B.osLock = false ∧ (coreOff s0B).cfg.wf = true ∧ ¬Reachable (coreOff s0B) := by decide

theorem witness_SoftwareLockAccess :
    Reachable s0 ∧ s0.cfg.hasSoftwareLock = true ∧ mm.memoryMapped = true ∧ ext.memoryMapped = false ∧ Reachable s0B ∧
    s0B.cfg.hasSoftwareLock = false ∧ ¬Reachable (coreOff s0B) := by decide

/-- Armv8.0 debug, where a prohibited OSLAR_EL1 access need not be an ERROR. -/
def v8p0 (s : State) : State :=
  withCfg (fun c => { c with
    dbg := { c.dbg with debugv8p1 := false, debugv8p2 := false, debugv8p4 := false }
    opt := { c.opt with oslarErrorWhenDisallowed := false } }) s

theorem witness_OsLockAccess :
    CoreOn (withOsLock s0) ∧ (withOsLock s0).allowDebug ext = true ∧ (withOsLock s0).softLock ext = false ∧
    (withSoftLock s0).softLock mm = true ∧ CoreOn (withSoftLock s0) ∧ (withSoftLock s0).allowDebug mm = true ∧
    ¬CoreOn (coreOff s0) ∧ CoreOn (denied s0) ∧ (denied s0).allowDebug ext = false ∧
    (denied s0).cfg.dbg.debugv8p2 = true ∧ Executes s0 ∧
    ¬(denied (v8p0 s0)).allowDebug ext = true ∧ (denied (v8p0 s0)).cfg.dbg.debugv8p2 = false ∧
    (denied (v8p0 s0)).cfg.opt.oslarErrorWhenDisallowed = false ∧ CoreOn (denied (v8p0 s0)) := by decide

/-- The first and the last breakpoint; the last of CFG-B; each lock, and each error. -/
theorem witness_BreakpointControl :
    (0 : Index).toNat < s0.cfg.pe.numBrp ∧ (5 : Index).toNat < s0.cfg.pe.numBrp ∧ (19 : Index).toNat < s0B.cfg.pe.numBrp ∧
    PlainStorage s0 ∧ PlainStorage s0B ∧ Permitted s0 ext ∧ Permitted s0B ext ∧ s0.softLock ext = false ∧
    Permitted (withSoftLock s0) mm ∧ (withSoftLock s0).softLock mm = true ∧ Unlocked (denied s0) ∧
    (denied s0).allowDebug ext = false ∧ ¬Unlocked (withOsLock s0) ∧ ¬Unlocked (coreOff s0) ∧
    (s0.setBcr 0 0x00100000).bt 0 = 0b0001 ∧ (s0.setBcr 0 0x00500000).bt 0 = 0b0101 ∧ lbnBit s0.cfg 15 = false ∧
    Executes s0 ∧ (SysReg.dbgbcr 5).reachable s0.cfg s0.usingAA64 = true ∧ ¬Trapped s0 ∧
    Trapped (withEdscr 0x00200000 s0) ∧ (SysReg.dbgbcr32 5).reachable (inAA32 s0).cfg (inAA32 s0).usingAA64 = true ∧
    Executes (inAA32 s0) ∧ PlainStorage (inAA32 s0) := by decide

theorem witness_WatchpointControl :
    (0 : Index).toNat < s0.cfg.pe.numWrp ∧ (3 : Index).toNat < s0.cfg.pe.numWrp ∧ PlainStorage s0 ∧ Permitted s0 ext ∧
    s0.softLock ext = false ∧ Permitted (withSoftLock s0) mm ∧ (withSoftLock s0).softLock mm = true ∧
    Unlocked (denied s0) ∧ (denied s0).allowDebug ext = false ∧ ¬Unlocked (withOsLock s0) ∧
    ((s0.setWcr 0 0x00100000).wcr 0).getLsbD 20 = true ∧ lbnBit s0.cfg 20 = false ∧
    Executes s0 ∧ (SysReg.dbgwcr 3).reachable s0.cfg s0.usingAA64 = true ∧ ¬Trapped s0 ∧
    Trapped (withEdscr 0x00200000 s0) ∧ (SysReg.dbgwcr32 3).reachable (inAA32 s0).cfg (inAA32 s0).usingAA64 = true ∧
    Executes (inAA32 s0) ∧ PlainStorage (inAA32 s0) := by decide

theorem witness_ControlHighWords :
    s0B.cfg.dbg.debugv8p9 = true ∧ PlainStorage s0B ∧ (19 : Index).toNat < s0B.cfg.pe.numBrp ∧
    (15 : Index).toNat < s0B.cfg.pe.numWrp ∧ Permitted s0B ext ∧ Unlocked (denied s0B) ∧
    (denied s0B).allowDebug ext = false ∧ ¬Unlocked (coreOff s0B) := by decide

theorem witness_BreakpointValueWrite :
    (5 : Index).toNat < s0.cfg.pe.numBrp ∧ PlainStorage s0 ∧ Permitted s0 ext ∧ s0.softLock ext = false ∧
    Permitted (withSoftLock s0) mm ∧ (withSoftLock s0).softLock mm = true ∧ Unlocked (denied s0) ∧
    (denied s0).allowDebug ext = false ∧ ¬Unlocked (withOsLock s0) ∧ Executes s0 ∧ ¬Trapped s0 ∧
    Trapped (withEdscr 0x00200000 s0) ∧ (SysReg.dbgbvr 5).reachable s0.cfg s0.usingAA64 = true ∧
    Executes (inAA32 s0) ∧ PlainStorage (inAA32 s0) ∧
    (SysReg.dbgbvr32 5).reachable (inAA32 s0).cfg (inAA32 s0).usingAA64 = true ∧
    (SysReg.dbgbxvr 5).reachable (inAA32 s0).cfg (inAA32 s0).usingAA64 = true := by decide

theorem witness_BreakpointValueRead :
    (5 : Index).toNat < s0.cfg.pe.numBrp ∧ PlainStorage s0 ∧ Permitted s0 ext ∧ Unlocked (denied s0) ∧
    (denied s0).allowDebug ext = false ∧ ¬Unlocked (withOsLock s0) := by decide

theorem witness_WatchpointValueWords :
    (3 : Index).toNat < s0.cfg.pe.numWrp ∧ PlainStorage s0 ∧ Permitted s0 ext ∧ s0.softLock ext = false ∧
    Permitted (withSoftLock s0) mm ∧ (withSoftLock s0).softLock mm = true ∧ Unlocked (denied s0) ∧
    (denied s0).allowDebug ext = false ∧ ¬Unlocked (withOsLock s0) ∧ Executes s0 ∧ ¬Trapped s0 ∧
    Trapped (withEdscr 0x00200000 s0) ∧ (SysReg.dbgwvr 3).reachable s0.cfg s0.usingAA64 = true ∧
    Executes (inAA32 s0) ∧ PlainStorage (inAA32 s0) ∧
    (SysReg.dbgwvr32 3).reachable (inAA32 s0).cfg (inAA32 s0).usingAA64 = true := by decide

theorem witness_AbsentArrayRegisters :
    s0.cfg.pe.numBrp ≤ (6 : Index).toNat ∧ s0.cfg.pe.numBrp ≤ (63 : Index).toNat ∧
    s0.cfg.pe.numWrp ≤ (4 : Index).toNat ∧ Permitted s0 ext ∧ ¬Permitted (withOsLock s0) ext ∧
    ¬Permitted (denied s0) ext := by decide

theorem witness_ClaimClear :
    Unlocked s0 ∧ s0.softLock ext = false ∧ Unlocked (withSoftLock s0) ∧ (withSoftLock s0).softLock mm = true ∧
    ¬Unlocked (withOsLock s0) := by decide

theorem witness_ClaimSet :
    Unlocked claimed ∧ claimed.softLock ext = false ∧ Unlocked (withSoftLock claimed) ∧
    (withSoftLock claimed).softLock mm = true ∧ ¬Unlocked (coreOff claimed) := by decide

theorem witness_DtrRxAccess :
    NormalMode s0 ∧ DtrLive s0 ∧ s0.ctl.edscr.getLsbD 30 = false ∧ NormalMode rxFull ∧ DtrLive rxFull ∧
    rxFull.ctl.edscr.getLsbD 30 = true ∧ Unlocked rxFull ∧ rxFull.softLock ext = false ∧ Unlocked s0 ∧
    s0.softLock ext = false := by decide

theorem witness_DtrTxAccess :
    NormalMode txFull ∧ Permitted txFull ext ∧ txFull.softLock ext = false ∧ DtrLive txFull ∧
    txFull.ctl.edscr.getLsbD 29 = true ∧ NormalMode s0 ∧ Permitted s0 ext ∧ s0.ctl.edscr.getLsbD 29 = false ∧
    DtrLive s0 ∧ Permitted (withSoftLock txFull) mm ∧ (withSoftLock txFull).softLock mm = true ∧
    (withSoftLock txFull).ctl.edscr.getLsbD 29 = true ∧ Permitted (withSoftLock s0) mm ∧
    (withSoftLock s0).softLock mm = true ∧ Unlocked (denied s0) ∧ (denied s0).allowDebug ext = false := by decide

theorem witness_DtrAccessWhileError :
    NormalMode (withEdscr 0x40 s0) ∧ (withEdscr 0x40 s0).ctl.edscr.getLsbD 6 = true ∧
    s0.cfg.opt.dtrErrAsWritten = false ∧ Unlocked (withEdscr 0x40 s0) ∧ Permitted (withEdscr 0x40 txFull) ext ∧
    (withEdscr 0x40 txFull).ctl.edscr.getLsbD 29 = true ∧ (withEdscr 0x40 s0).ctl.edscr.getLsbD 29 = false := by decide

theorem witness_ItrAccess :
    NormalMode s0 ∧ s0.hal.halted = false ∧ NormalMode (haltedExt s0) ∧ (haltedExt s0).hal.halted = true ∧
    (haltedExt s0).ctl.edscr.getLsbD 6 = false ∧ (haltedExt s0).ctl.edscr.getLsbD 24 = true ∧
    (withEdscr 0x40 (haltedExt s0)).ctl.edscr.getLsbD 6 = true ∧
    (after (.wrEditr 0 ext) (haltedExt s0)).ctl.edscr.getLsbD 24 = false ∧
    (after (.wrEditr 0 ext) (haltedExt s0)).ctl.edscr.getLsbD 6 = false ∧ Unlocked (haltedExt s0) ∧
    (haltedExt s0).softLock ext = false ∧ ¬Unlocked (withOsLock s0) := by decide

theorem witness_ReserveControlAccess :
    Unlocked s0 ∧ s0.softLock ext = false ∧ Unlocked (withSoftLock s0) ∧ (withSoftLock s0).softLock mm = true ∧
    ¬Unlocked (withOsLock s0) := by decide

theorem witness_ExceptionCatchControl :
    PlainStorage s0 ∧ Unlocked s0 ∧ s0.softLock ext = false ∧ (withSoftLock s0).softLock mm = true ∧
    ¬Unlocked (withOsLock s0) := by decide

theorem witness_ExecutionControl :
    PlainStorage s0 ∧ Reachable s0 ∧ s0.powered = true ∧ edecrCoreField s0.cfg 4 = false ∧ s0.softLock ext = false ∧
    Reachable (withSoftLock s0) ∧ (withSoftLock s0).softLock mm = true ∧ PlainStorage (coreOff s0B) ∧
    ¬Reachable (coreOff s0B) := by decide

theorem witness_EventStatus :
    PlainStorage s0 ∧ CoreOn (withOsLock s0) ∧ s0.softLock ext = false ∧ CoreOn (withSoftLock s0) ∧
    (withSoftLock s0).softLock mm = true ∧ ¬CoreOn (coreOff s0) := by decide

theorem witness_WatchpointSyndromeAndAddress :
    byWatchpoint.cfg.dbg.edhsr = true ∧ byWatchpoint.hal.halted = true ∧ byWatchpoint.hal.edhsr.getLsbD 17 = true ∧
    byWatchpoint.ctl.edscr.extractLsb' 0 6 = 0b101011#6 ∧ byWatchpoint.hal.edhsr.getLsbD 10 = false ∧
    byWatchpoint.hal.edwarAA32 = false ∧ Unlocked byWatchpoint ∧ ¬Unlocked (withOsLock byWatchpoint) ∧
    s0.cfg.dbg.edhsr = false := by decide

theorem witness_IntegrationAndAuxiliaryControl :
    PlainStorage (optional s0) ∧ Unlocked (optional s0) ∧ (optional s0).cfg.has.editctrl = true ∧
    (optional s0).cfg.has.edacr = true ∧ (optional s0).softLock ext = false ∧
    PlainStorage (withSoftLock (optional s0)) ∧ Unlocked (withSoftLock (optional s0)) ∧
    (withSoftLock (optional s0)).softLock mm = true := by decide

/-- EDACR with bits that must be preserved over power down. -/
def preserving (s : State) : State :=
  withCfg (fun c => { c with has := { c.has with edacr := true, edacrPreserved := 0x80000001 } }) s

theorem witness_IntegrationAndAuxiliaryControl_preserved :
    (preserving s0).cfg.has.edacr = true ∧ (preserving s0).cfg.dbg.doPD = false ∧
    (preserving s0).cfg.has.edacrPreserved ≠ 0 ∧ ext.memoryMapped = false ∧ (withOsLock (preserving s0)).osLock = true ∧
    (coreOff (preserving s0)).powered = false := by decide

/-- 42 R360: with the OS Lock set a write through the external debug interface stores the preserved bits; with FEAT_DoPD, or
through the memory-mapped interface, no bit must be reached. -/
theorem test_edacr_preserved_under_os_lock :
    (after (.wrEdacr 0x80000000 ext) (withOsLock (preserving s0))).ctl.edacr.getLsbD 31 = true ∧
    respOf (.wrEdacr 0x80000000 ext) (withOsLock (preserving s0)) = .okWrite ∧
    (withOsLock (preserving s0B)).acrAccessible ext = 0 ∧ (withOsLock (preserving s0)).acrAccessible mm = 0 := by
  refine ⟨?_, rfl, by decide, by decide⟩
  show (merge 0x80000001#32 _ 0x80000000#32).getLsbD 31 = true
  simp [merge]

theorem witness_PowerControl :
    PlainStorage s0 ∧ Reachable s0 ∧ s0.softLock ext = false ∧ s0.osLock = false ∧ s0.powered = true ∧
    Reachable (coreOff s0) ∧ (coreOff s0).powered = false ∧ (withSoftLock s0).softLock mm = true ∧
    PlainStorage (coreOff s0B) ∧ ¬Reachable (coreOff s0B) ∧ s0.cfg.opt.cwrrExtent ≠ .ignored ∧
    s0.cfg.pe.secureImpl = true ∧ s0.auth.secureInvasive = true ∧ s0.cfg.sys.rme = false := by decide

/-- External trace and PMU accesses exist, and the Non-secure ones are refused. -/
def refused (s : State) : State :=
  let t := withCfg (fun c => { c with sys := { c.sys with trcExt := true, trbe := true, pmuv3Ext := true } }) s
  { t with env :=
      { t.env with
        allowTrace := { t.env.allowTrace with nonSecure := false }
        allowPMU := { t.env.allowPMU with nonSecure := false } } }

/-- 46 R645: ETAD reports Non-secure accesses, to a Secure read and without FEAT_Debugv8p4 too; EDAD then the reader's. -/
theorem test_etad_reports_non_secure :
    let s := withCfg (fun c => { c with dbg := { c.dbg with debugv8p4 := false } }) (refused s0)
    (edprsrValue sec s).getLsbD 12 = true ∧ (edprsrValue sec s).getLsbD 9 = false ∧
    (edprsrValue ext s).getLsbD 9 = true := by decide

theorem witness_PowerStatusRead :
    s0.power.core = .powered ∧ s0.doubleLock = false ∧ s0.power.inReset = false ∧ s0.softLock ext = false ∧
    (withSoftLock s0).softLock mm = true ∧ s0.cfg.dbg.doubleLock = false ∧ s0.cfg.sys.rme = false ∧
    (noPmu s0).cfg.sys.pmuv3 = false ∧ (noPmu s0).cfg.sys.pmuv3Ext = false ∧ (refused s0).cfg.sys.pmuv3Ext = true ∧
    s0.lock.oslk = false ∧ (agentStep .warmReset s0).power.inReset = true ∧
    (agentStep .warmReset s0).power.core = .powered ∧ Reachable (coreOff s0) ∧ (coreOff s0).powered = false ∧
    ¬Reachable (coreOff s0B) ∧ (refused s0).powered = true ∧ (refused s0).allowTraceFor ext.ss = false ∧
    (refused s0).allowPMUFor ext.ss = false ∧ (refused s0).allowTraceFor sec.ss = true ∧
    (refused s0).allowPMUFor sec.ss = true := by decide

/-- A sample that is due as the first since the PE left reset state. -/
def firstSample : State := { sampled with smp := { sampled.smp with first := true } }

theorem witness_PcSample :
    sampled.cfg.hasPcsr = true ∧ Unlocked sampled ∧ sampled.softLock ext = false ∧ sampled.hal.halted = false ∧
    sampled.env.pcSampleProhibited = false ∧ sampled.power.inReset = false ∧ sampled.smp.fresh = true ∧
    sampled.smp.first = false ∧ sampled.sc2 = false ∧ sampled.sampleAddr.extractLsb' 32 32 ≠ 0 ∧
    (withEdscr 0x00080000 sampled).sc2 = true ∧ sampled.pe.el ≠ 3 ∧ sampled.pe.el2AA64 = true ∧
    ({ sampled.pe with el2Enabled := true } : PeView).el2Enabled = true ∧ ¬Unlocked (withOsLock sampled) ∧
    firstSample.cfg.hasPcsr = true ∧ Unlocked firstSample ∧ firstSample.softLock ext = false ∧
    firstSample.hal.halted = false ∧ firstSample.env.pcSampleProhibited = false ∧ firstSample.power.inReset = false ∧
    firstSample.smp.fresh = true ∧ firstSample.smp.first = true := by decide

/-- No sample: halted, in reset state, without a fresh one; and each under the Software Lock. -/
theorem witness_PcSample_none :
    (haltedExt s0).hal.halted = true ∧ Unlocked (haltedExt s0) ∧ (haltedExt s0).softLock ext = false ∧
    (agentStep .warmReset s0).power.inReset = true ∧ Unlocked (agentStep .warmReset s0) ∧
    (agentStep .warmReset s0).softLock ext = false ∧ (agentStep .warmReset s0).hal.halted = false ∧
    s0.smp.fresh = false ∧ s0.hal.halted = false ∧ s0.env.pcSampleProhibited = false ∧ Unlocked s0 ∧
    s0.softLock ext = false ∧ Unlocked (withSoftLock sampled) ∧ (withSoftLock sampled).softLock mm = true ∧
    Unlocked (withSoftLock (haltedExt s0)) ∧ (withSoftLock (haltedExt s0)).softLock mm = true ∧
    Unlocked (withSoftLock firstSample) ∧ (withSoftLock firstSample).softLock mm = true := by decide

/-- 45 R568: a locked memory-mapped read in Debug state leaves EDPCSR[63:32], EDCIDSR and EDVIDSR as they are. -/
theorem test_locked_pcsr_read_while_halted :
    let s := withSoftLock { haltedExt s0 with smp := ⟨0x0000FFFF, 0x42, 0x9000002A, true, true⟩ }
    (after (.rdEdpcsrLo mm) s).smp = ⟨0x0000FFFF, 0x42, 0x9000002A, false, false⟩ ∧
    respOf (.rdEdpcsrLo mm) s = .okRead 0xFFFFFFFF := by decide

/-- No PC Sample-based Profiling. -/
def noPcsr (s : State) : State := withCfg (fun c => { c with sys := { c.sys with pcsrv8 := false } }) s

theorem witness_SampleRegisters :
    s0.cfg.hasPcsr = true ∧ s0.cfg.hasVidsr = true ∧ Unlocked s0 ∧ ¬Unlocked (withOsLock s0) ∧ Executes s0 ∧
    s0.hal.halted = false ∧ s0.env.pcSampleProhibited = false ∧ (haltedExt s0).hal.halted = true ∧
    s0.power.core = .powered ∧ s0.power.inReset = false ∧ s0.lateControls = [] := by decide

/-- Without the OPTIONAL registers, and with an implementation that may answer ERROR at reserved offsets. -/
def bare (s : State) : State :=
  withCfg (fun c => { c with
    has := { c.has with edacr := false, editctrl := false, coreSightID := false }
    opt := { c.opt with reservedMayError := true } }) s

theorem witness_AbsentRegisters :
    (noPcsr s0).cfg.hasPcsr = false ∧ (noPcsr s0).cfg.hasVidsr = false ∧ Unlocked (noPcsr s0) ∧
    ¬Unlocked (withOsLock (noPcsr s0)) ∧ s0.cfg.dbg.edhsr = false ∧ s0.cfg.hasScr2 = false ∧ Unlocked s0 ∧
    s0.cfg.dbg.debugv8p9 = false ∧ (5 : Index).toNat < s0.cfg.pe.numBrp ∧ (3 : Index).toNat < s0.cfg.pe.numWrp ∧
    s0.cfg.opt.reservedMayError = false ∧ (bare s0).cfg.has.edacr = false ∧ (bare s0).cfg.has.editctrl = false ∧
    (bare s0).cfg.has.coreSightID = false ∧ (bare s0).cfg.opt.reservedMayError = true ∧ Permitted (bare s0) ext ∧
    ¬Permitted (denied (bare s0)) ext := by decide

theorem witness_StatusControlRead :
    PlainStorage s0 ∧ edscrField s0.cfg 14 = true ∧ edscrField s0.cfg 22 = true ∧ ¬IntdisReserved s0 ∧ Unlocked s0 ∧
    ¬Unlocked (withOsLock s0) ∧ (haltedExt s0).hal.halted = true ∧ s0.cfg.dbg.aa32 = false ∧
    s0.cfg.pe.haveEL3 = true ∧ s0.hal.halted = false ∧ s0.cfg.sys.rme = false ∧ s0.cfg.dbg.debugv8p4 = true ∧
    (inAA32 s0).cfg.dbg.aa32 = true ∧ (inAA32 s0).pe.el1AA64 = false ∧ (inAA32 s0).pe.el3AA64 = true ∧
    (inAA32 s0).pe.el2Enabled = false ∧
    ({ (inAA32 s0).pe with el3AA64 := false } : PeView).el3AA64 = false := by decide

/-- In variant (c) of INTdis, 0b01 reserved; and an interrupt that INTdis 0b01 of variant (b) masks, or would not. -/
theorem witness_StatusControlWrite :
    PlainStorage s0 ∧ Unlocked s0 ∧ s0.softLock ext = false ∧ (withSoftLock s0).softLock mm = true ∧
    ¬Unlocked (withOsLock s0) ∧ Executes (withOsLock s0) ∧ (withOsLock s0).seen.lock.oslk = true ∧ s0.seen.lock.oslk = false ∧
    Executes s0 ∧ s0.hal.halted = false ∧ (haltedExt s0).hal.halted = true ∧ s0.earlierAuth = [] ∧
    ¬IntdisReserved s0.seen ∧ LegalView s0.cfg s0.pe ∧ intdisMasks s0.cfg s0.auth false true .nonSecure 1 = true ∧
    intdisMasks s0.cfg s0.auth false false .nonSecure 1 = false ∧
    IntdisReserved (withEdscr 0x00400000
      (withCfg (fun c => { c with opt := { c.opt with intdisTwoBit := false } }) (v8p0 s0))) := by decide

theorem witness_StatusControl2 :
    PlainStorage s0B ∧ s0B.cfg.dbg.debugv8p9 = true ∧ Unlocked s0B ∧ ¬Unlocked (withOsLock s0B) := by decide

theorem witness_EnteringDebugState :
    s0.power.core = .powered ∧ s0.power.inReset = false ∧ s0.hal.halted = false ∧ s0.env.haltingAllowed = true ∧
    (withEdscr 0x4000 s0).seen.eventEnabled .hltInstruction = true ∧ (withEdesr 2 s0).seen.eventEnabled .resetCatch = true ∧
    ¬ResetCatchFirst s0 ∧ s0B.cfg.dbg.edhsr = true ∧
    (withEdscr 0x4000 ((s0B.setWcr 3 0x1FF9).setWvr 3 0x0000FFFF80001238)).seen.eventEnabled (.watchpoint 3 aStore 0) ∧
    (halted (.watchpoint 3 aStore 0) s0B).hal.edhsr.getLsbD 17 = true := by decide

theorem witness_LeavingDebugState :
    (haltedExt s0).power.core = .powered ∧ (haltedExt s0).power.inReset = false ∧ (haltedExt s0).hal.halted = true ∧
    (agentStep .restartRequest (haltedExt s0)).ctl.edscr.extractLsb' 0 6 = 0b000001#6 ∧
    (agentStep .restartRequest (haltedExt s0)).ctl.edscr.getLsbD 24 = true ∧
    (haltedExt s0).ctl.edscr.extractLsb' 0 6 ≠ 0b000001#6 := by decide

/-- Halting is not allowed. -/
def noHalting (s : State) : State := { s with env := { s.env with haltingAllowed := false } }

theorem witness_PendingEvents :
    s0.power.core = .powered ∧ s0.power.inReset = false ∧ (withEdesr 2 s0).hal.halted = false ∧
    (withEdesr 2 s0).env.haltingAllowed = true ∧ edesrField s0.cfg PendingEvent.rc.bit = true ∧
    (withEdesr 2 s0).ctl.edesr.getLsbD PendingEvent.rc.bit = true ∧ ¬ResetCatchFirst (withEdesr 2 s0) ∧
    s0.ctl.edesr.getLsbD PendingEvent.ec.bit = false ∧ (after (.wrEdecr 4 ext) s0).seen.ctl.edecr.getLsbD 2 = true ∧
    (noHalting s0).env.haltingAllowed = false ∧ (noHalting (after (.wrEdecr 4 ext) s0)).seen.ctl.edecr.getLsbD 2 = true ∧
    s0B.cfg.dbg.debugv8p8 = true ∧
    catchEnabled s0B.cfg (after (.wrEdeccr 0x20 ext) s0B).seen.ctl.edeccr 1 .nonSecure .entry = true ∧
    catchEnabled s0B.cfg s0B.seen.ctl.edeccr 1 .nonSecure .entry = false := by decide

/-- Halted, with an instruction in the ITR that has not executed. -/
def itrFull : State := after (.wrEditr 0xD503201F ext) (haltedExt s0)

/-- Halted in Memory access mode, with an operation outstanding. -/
def memoryBusy : State :=
  let s := withEdscr 0x00100000 (haltedExt s0)
  { s with ctl := { s.ctl with edscr := s.ctl.edscr &&& ~~~0x01000000 }, dcc := { s.dcc with memoryOp := true } }

/-- A restart request while the instruction in the ITR has not executed. -/
theorem witness_LeavingDebugState_unfinished :
    (agentStep .restartRequest itrFull).power.core = .powered ∧ (agentStep .restartRequest itrFull).power.inReset = false ∧
    (agentStep .restartRequest itrFull).hal.halted = true ∧
    (agentStep .restartRequest itrFull).ctl.edscr.extractLsb' 0 6 = 0b000001#6 ∧
    (agentStep .restartRequest itrFull).ctl.edscr.getLsbD 24 = false := by decide

theorem witness_PeSideOfTheChannel :
    Executes rxFull ∧ rxFull.ctl.edscr.getLsbD 30 = true ∧ Executes s0 ∧ s0.ctl.edscr.getLsbD 30 = false ∧
    s0.ctl.edscr.getLsbD 29 = false ∧ Executes txFull ∧ txFull.ctl.edscr.getLsbD 29 = true ∧ Executes itrFull ∧
    itrFull.hal.halted = true ∧ itrFull.seen.ctl.edscr.getLsbD 20 = false ∧ itrFull.ctl.edscr.getLsbD 24 = false ∧
    itrFull.itrInstruction = .a64 0xD503201F ∧ LegalView itrFull.cfg itrFull.pe ∧ PlainStorage s0 ∧
    itrFull.dcc.memoryOp = false ∧ ItrInstruction.t32 0 0 ≠ itrFull.itrInstruction := by decide

theorem witness_PeSideOfTheChannel_memory :
    Executes memoryBusy ∧ memoryBusy.hal.halted = true ∧ memoryBusy.dcc.memoryOp = true ∧
    memoryBusy.ctl.edscr.getLsbD 24 = false ∧ LegalView memoryBusy.cfg memoryBusy.pe := by decide

/-- 41 R304, R306, 70 R884: a step of a Memory access mode operation happens while one is outstanding, whatever MA is by then,
and in no other case. -/
theorem test_memory_access :
    let el2 := fun (s : State) => (agentStep (.memoryAccess { s.pe with el := 2 } s.env) s).pe.el
    el2 memoryBusy = 2 ∧ el2 (after (.wrEdscr 0 ext) memoryBusy) = 2 ∧ el2 (withEdscr 0x01000000 memoryBusy) = 1 ∧
    el2 itrFull = 1 ∧ el2 (withEdscr 0x00100000 itrFull) = 1 ∧ el2 (withEdscr 0x00100000 s0) = 1 := by decide

/-- 20_memory.md R172: a word that waits in ITR is the one that was written, although a DTR access was made in Memory access
mode meanwhile; and no word is executed for an operation of that mode. -/
theorem test_accepted_word_once :
    let s := after (.wrDbgdtrrx 5 ext) (withEdscr 0x00100000 itrFull)
    let e : ItrEffect :=
      { instruction := memoryBusy.itrInstruction, takesRx := false, putsTx := none, exception := false,
        pe := { s0.pe with el := 2 }, env := s0.env }
    s.dcc.itr = 0xD503201F ∧ s.dcc.memoryOp = false ∧
    (agentStep (.takeItr e) (after (.wrEdscr 0 ext) memoryBusy)).pe.el = 1 ∧
    (agentStep (.takeItr { e with instruction := itrFull.itrInstruction }) itrFull).pe.el = 2 := by decide

theorem witness_WarmReset : s0.hal.halted = false ∧ (haltedExt s0).hal.halted = true := by decide

/-- 70 R864, 46 R657: a reset taken in reset state remembers an OS Double Lock that is locked by then, or was before. -/
theorem test_reset_anew_double_lock :
    let s := withCfg (fun c => { c with dbg := { c.dbg with doubleLock := true } }) s0
    let lock := fun (b : Bool) (t : State) => { t with env := { t.env with doubleLock := b } }
    (agentStep .warmReset s).power.resetWithDoubleLock = false ∧
    (agentStep .warmReset (lock true (agentStep .warmReset s))).power.resetWithDoubleLock = true ∧
    (agentStep .warmReset (lock false (agentStep .warmReset (lock true s)))).power.resetWithDoubleLock = true := by decide

theorem witness_ColdReset :
    edscrField s0.cfg 14 = true ∧ edeccrField s0.cfg 3 = true ∧ edscr2Field s0B.cfg 3 = true ∧
    edecrCoreField { s0B.cfg with sys := { s0B.cfg.sys with pmuv3p9 := true } } 4 = true ∧ s0B.cfg.dbg.doPD = true ∧
    s0.cfg.dbg.doPD = false ∧ (optional s0).cfg.has.edacr = true ∧ (optional s0).cfg.has.edacrDomain = .core ∧
    s0.cfg.has.edacr = false := by decide

theorem witness_ExternalDebugResetAndLeavingReset :
    s0B.cfg.dbg.doPD = true ∧ s0.cfg.dbg.doPD = false ∧ s0.cfg.has.edacr = false ∧
    (optional s0).cfg.has.edacr = true ∧ s0.cfg.has.editctrlDomain = .debug ∧
    (agentStep .warmReset s0).power.inReset = true ∧ s0.power.inReset = false := by decide

/-- Leaving the retention state resets CORENPDRQ and sets SPD. -/
def clearedByRetention (s : State) : State :=
  withCfg (fun c => { c with opt := { c.opt with corenpdrqRetentionReset := true, spdSetByRetention := true } }) s

theorem witness_CorePower :
    (after (.wrEdprcr 8 ext) s0).ctl.edprcr.getLsbD 3 = true ∧ s0.cfg.dbg.doPD = false ∧
    (after (.wrEdprcr 1 ext) s0).ctl.edprcr.getLsbD 0 = true ∧ s0.power.core = .powered ∧
    s0.ctl.edprcr.getLsbD 3 = false ∧ s0.ctl.edprcr.getLsbD 0 = false ∧ (coreOff s0).power.core = .off ∧
    s0.power.core ≠ .off ∧ (agentStep .enterRetention s0).power.core = .retention ∧
    (agentStep .enterRetention s0).power.core ≠ .powered ∧ (agentStep .enterRetention s0).power.core ≠ .off ∧
    s0.power.core ≠ .retention ∧ s0.cfg.opt.corenpdrqRetentionReset = false ∧ s0B.cfg.dbg.doPD = true ∧
    (clearedByRetention s0).cfg.opt.corenpdrqRetentionReset = true := by decide

/-- 46 R626, 93 U16: where the implementation does so, leaving the retention state resets CORENPDRQ and sets SPD. -/
theorem test_retention_exit :
    let s := after (.rdEdprsr ext) (after (.wrEdprcr 1 ext) s0)
    let left := fun (s : State) => agentStep .leaveRetention (agentStep .enterRetention s)
    s.sticky.spd = false ∧ (left s).sticky.spd = false ∧ (left s).ctl.edprcr = 1 ∧
    (left (clearedByRetention s)).sticky.spd = true ∧ (left (clearedByRetention s)).ctl.edprcr = 0 := by decide

end Sys2Proof.Tests
end

section
/-!
Proofs of the family 40_dbg_auth_breakpoint.md: writes of the identification and status registers (`IdentWritesIgnored`)
and the registers of unimplemented breakpoints and watchpoints (`AbsentArrayRegisters`).
-/

namespace Sys2Proof.Proofs.AuthBreakpoint

open Sys2Proof.Machine Sys2Proof.Safety

/-! ## Identification registers -/

/-- WR_ID() (42 head) is a write of a read-only register under the clause `coreOff`. -/
theorem identWrite_of {i : Instr} {s : State} (h : exec i s = .next (writeIdent i.ad s)) : IdentWrite i s := by
  refine ⟨fun hr => ?_, fun hr => ?_⟩
  · rw [h, writeIdent, writeReg_readOnly _ ((coreOff_holds_iff s i.ad).2 hr)]; rfl
  · rw [h, writeIdent, writeReg_error _ _ (not_coreOff hr), raiseError_plain _ _ _ rfl]

theorem writeOptionalIdent_of_implemented {s : State} (hc : s.cfg.has.coreSightID = true) (ad : AddrDesc) :
    writeOptionalIdent ad s = writeIdent ad s := if_pos hc

/-- Where the CoreSight identification registers are implemented, a write of one is WR_ID(). -/
theorem identWrite_of_optional {i : Instr} {s : State} (hc : s.cfg.has.coreSightID = true)
    (h : exec i s = .next (writeOptionalIdent i.ad s)) : IdentWrite i s :=
  identWrite_of (by rw [h, writeOptionalIdent_of_implemented hc])

/-- Settles O20: each of the writes is WR_ID(), by its arm of `exec`. -/
theorem identWritesIgnored : Obligations.IdentWritesIgnored := by
  intro s d ad
  refine ⟨?always, fun hc => ?optional⟩
  case always =>
    exact ⟨identWrite_of rfl, identWrite_of rfl, identWrite_of rfl, identWrite_of rfl, identWrite_of rfl,
      identWrite_of rfl, identWrite_of rfl, identWrite_of rfl⟩
  case optional =>
    have ignored {i : Instr} := identWrite_of_optional (i := i) hc
    exact ⟨ignored rfl, ignored rfl, ignored rfl, ignored rfl, ignored rfl, ignored rfl, ignored rfl, ignored rfl,
      ignored rfl, ignored rfl, ignored rfl⟩

/-! ## Unimplemented breakpoints and watchpoints -/

theorem hasBreakpoint_eq_false_iff (c : Config) (n : Index) : c.hasBreakpoint n = false ↔ c.pe.numBrp ≤ n.toNat := by
  simp [Config.hasBreakpoint]

theorem hasWatchpoint_eq_false_iff (c : Config) (n : Index) : c.hasWatchpoint n = false ↔ c.pe.numWrp ≤ n.toNat := by
  simp [Config.hasWatchpoint]

theorem readBreakpoint_absent {s : State} {n : Index} (h : s.cfg.hasBreakpoint n = false) (ad : AddrDesc)
    (v : State → Word) : readBreakpoint n ad s v = readUnimplemented ad s := by simp [readBreakpoint, h]

theorem writeBreakpoint_absent {s : State} {n : Index} (h : s.cfg.hasBreakpoint n = false) (ad : AddrDesc)
    (w : State → State) : writeBreakpoint n ad s w = writeUnimplemented ad s := by simp [writeBreakpoint, h]

theorem readWatchpoint_absent {s : State} {n : Index} (h : s.cfg.hasWatchpoint n = false) (ad : AddrDesc)
    (v : State → Word) : readWatchpoint n ad s v = readUnimplemented ad s := by simp [readWatchpoint, h]

theorem writeWatchpoint_absent {s : State} {n : Index} (h : s.cfg.hasWatchpoint n = false) (ad : AddrDesc)
    (w : State → State) : writeWatchpoint n ad s w = writeUnimplemented ad s := by simp [writeWatchpoint, h]

/-- The four words of a breakpoint or watchpoint for which `present` is false. Each access is `access` of something, which
answers `u`; the high control word has a branch in front, its reserved offset (30_encoding.md R190 a), that is taken only
where the breakpoint or watchpoint is implemented. -/
theorem exec_absent_words {α : Type} {access : α → State} {s u : State} {present reserved : Bool}
    {valueLo valueHi controlLo controlHi : Instr} (hu : ∀ a, access a = u) (hp : present = false)
    (hvl : ∃ a, exec valueLo s = .next (access a)) (hvh : ∃ a, exec valueHi s = .next (access a))
    (hcl : ∃ a, exec controlLo s = .next (access a))
    (hch : ∃ t a, exec controlHi s = .next (if present && reserved then t else access a)) :
    ∀ i ∈ [valueLo, valueHi, controlLo, controlHi], exec i s = .next u := by
  obtain ⟨_, hvl⟩ := hvl
  obtain ⟨_, hvh⟩ := hvh
  obtain ⟨_, hcl⟩ := hcl
  obtain ⟨_, _, hch⟩ := hch
  rw [hu] at hvl hvh hcl
  rw [hp, Bool.false_and, if_neg Bool.false_ne_true, hu] at hch
  simp [hvl, hvh, hcl, hch]

/-- Transactions that are all accesses to an unimplemented breakpoint or watchpoint meet 40 R232. -/
theorem res0Or_of_unimplemented {s : State} {ad : AddrDesc} {rs ws : List Instr}
    (hr : ∀ i ∈ rs, exec i s = .next (readUnimplemented ad s))
    (hw : ∀ i ∈ ws, exec i s = .next (writeUnimplemented ad s)) :
    Res0Or (Permitted s ad) [errors s, sdadErrors s] rs ws s := by
  refine ⟨fun i hi => ?_, fun i hi => ?_⟩
  · rw [hr i hi]; exact readUnimplemented_outcome ad s
  · rw [hw i hi]; exact writeUnimplemented_outcome ad s

/-- Settles O32: every one of the sixteen transactions takes its "not implemented" branch. -/
theorem absentArrayRegisters : Obligations.AbsentArrayRegisters := by
  intro s n d ad
  refine ⟨fun hn => ?breakpoint, fun hn => ?watchpoint⟩
  case breakpoint =>
    have h := (hasBreakpoint_eq_false_iff s.cfg n).2 hn
    exact res0Or_of_unimplemented
      (exec_absent_words (readBreakpoint_absent h ad) h ⟨_, rfl⟩ ⟨_, rfl⟩ ⟨_, rfl⟩ ⟨_, _, rfl⟩)
      (exec_absent_words (writeBreakpoint_absent h ad) h ⟨_, rfl⟩ ⟨_, rfl⟩ ⟨_, rfl⟩ ⟨_, _, rfl⟩)
  case watchpoint =>
    have h := (hasWatchpoint_eq_false_iff s.cfg n).2 hn
    exact res0Or_of_unimplemented
      (exec_absent_words (readWatchpoint_absent h ad) h ⟨_, rfl⟩ ⟨_, rfl⟩ ⟨_, rfl⟩ ⟨_, _, rfl⟩)
      (exec_absent_words (writeWatchpoint_absent h ad) h ⟨_, rfl⟩ ⟨_, rfl⟩ ⟨_, rfl⟩ ⟨_, _, rfl⟩)

end Sys2Proof.Proofs.AuthBreakpoint
end

section
/-!
Proofs of the family 41_dbg_claim_dcc_watchpoint.md: the CLAIM tag registers (`ClaimClear`, `ClaimSet`).
-/

namespace Sys2Proof.Proofs.Claim

open Sys2Proof.Machine Sys2Proof.Safety

/-- A byte in bits [7:0] of a word has 24 zeros above it. -/
theorem fieldAt_zero_byte (c : BitVec 8) : fieldAt 0 c = 0x000000#24 ++ c :=
  calc fieldAt 0 c
    _ = c.setWidth 32 := BitVec.shiftLeft_zero _
    _ = 0x000000#24 ++ c := BitVec.setWidth_eq_append (by decide)

/-- A write whose new tags `g` takes from the CLAIM tags and from bits [7:0] of the data. -/
theorem claimWrite_of {i : Instr} {s : State} {d : Word} {g : BitVec 8 → BitVec 8 → BitVec 8}
    (h : exec i s = .next (writeReg .locked .readWrite i.ad s fun t => t.setClaim (g t.dcc.claim (d.setWidth 8)))) :
    LockedWrite i s { s with dcc := { s.dcc with claim := g s.dcc.claim (d.extractLsb' 0 8) } } := by
  have hbyte : d.setWidth 8 = d.extractLsb' 0 8 := BitVec.setWidth_eq_extractLsb' (by decide)
  rw [hbyte] at h
  exact lockedWrite_of h (.inl rfl) rfl

/-- Settles O33: the read shows CLAIM under zeros, and the write takes the tags written with 1 out of CLAIM. -/
theorem claimClear : Obligations.ClaimClear := by
  intro s d ad
  refine ⟨?read, ?write⟩
  case read => exact lockedRead_of (k := .readWrite) rfl (.inr (.inl rfl)) (fieldAt_zero_byte s.dcc.claim)
  case write => exact claimWrite_of (g := fun tags byte => tags &&& ~~~byte) rfl

/-- Settles O34: the read shows a constant, and the write adds the tags written with 1 to CLAIM. -/
theorem claimSet : Obligations.ClaimSet := by
  intro s d ad
  refine ⟨?read, ?write⟩
  case read => exact lockedRead_of (k := .readWrite) rfl (.inr (.inl rfl)) rfl
  case write => exact claimWrite_of (g := fun tags byte => tags ||| byte) rfl

end Sys2Proof.Proofs.Claim
end

section
/-!
Proofs of the family 42_ed_id_aux.md: reads of the CoreSight identification registers (`CoreSightIdentReads`).
-/

namespace Sys2Proof.Proofs.Ident

open Sys2Proof.Machine Sys2Proof.Safety

/-! ## Words written as a row of fields -/

/-- Two fields side by side: the upper one starts where the lower one ends. -/
theorem fieldAt_append {m n : Nat} (lo : Nat) (a : BitVec m) (b : BitVec n) :
    fieldAt lo (a ++ b) = fieldAt (lo + n) a ||| fieldAt lo b := by
  apply BitVec.eq_of_getLsbD_eq
  intro j hj
  simp only [BitVec.getLsbD_or, fieldAt_getLsbD, BitVec.getLsbD_append]
  by_cases hlo : lo ≤ j
  · by_cases hb : j - lo < n
    · have ha : ¬lo + n ≤ j := by omega
      simp [hj, hlo, hb, ha]
    · have ha : lo + n ≤ j := by omega
      have hout : b.getLsbD (j - lo) = false := BitVec.getLsbD_of_ge b _ (by omega)
      simp [hj, hlo, hb, ha, hout, Nat.sub_add_eq]
  · have ha : ¬lo + n ≤ j := by omega
    simp [hlo, ha]

@[simp] theorem fieldAt_zeros (lo n : Nat) : fieldAt lo 0#n = 0 := by simp [fieldAt]

/-- A row of fields that fills the word is the word. -/
theorem fieldAt_zero_eq_cast {n : Nat} (v : BitVec n) (hn : n = 32) : fieldAt 0 v = v.cast hn := by
  subst hn
  simp [fieldAt]

/-- A word of two fields under zeros. -/
theorem word_of_two_fields {k m n : Nat} (hn : k + m + n = 32) (a : BitVec m) (b : BitVec n) :
    fieldAt n a ||| fieldAt 0 b = (0#k ++ a ++ b).cast hn := by
  rw [← fieldAt_zero_eq_cast]
  simp [fieldAt_append]

/-- A word of three fields under zeros. -/
theorem word_of_three_fields {k l m n : Nat} (hn : k + l + m + n = 32) (a : BitVec l) (b : BitVec m) (c : BitVec n) :
    fieldAt (n + m) a ||| fieldAt n b ||| fieldAt 0 c = (0#k ++ a ++ b ++ c).cast hn := by
  rw [← fieldAt_zero_eq_cast]
  simp [fieldAt_append]

/-! ## The values of EDPIDR1 to EDPIDR4 -/

/-- 45 R595: DES_0 above PART_1. -/
theorem pidr1_eq_append (s : State) :
    pidr1 s = 0#24 ++ s.cfg.ident.designer.extractLsb' 0 4 ++ s.cfg.ident.partNumber.extractLsb' 8 4 :=
  word_of_two_fields (k := 24) rfl _ _

/-- 45 R597: REVISION, then JEDEC, which is 1, then DES_1. -/
theorem pidr2_eq_append (s : State) :
    pidr2 s = 0#24 ++ s.cfg.ident.revision ++ 0b1#1 ++ s.cfg.ident.designer.extractLsb' 4 3 :=
  word_of_three_fields (k := 24) rfl s.cfg.ident.revision 0b1#1 (s.cfg.ident.designer.extractLsb' 4 3)

/-- 45 R599: REVAND above CMOD. -/
theorem pidr3_eq_append (s : State) : pidr3 s = 0#24 ++ s.cfg.ident.revand ++ s.cfg.ident.cmod :=
  word_of_two_fields (k := 24) rfl _ _

/-- 45 R601: SIZE, which is 0, above DES_2. -/
theorem pidr4_eq_append (s : State) : pidr4 s = 0#24 ++ 0b0000#4 ++ s.cfg.ident.designerCont :=
  calc pidr4 s
    _ = fieldAt 4 0b0000#4 ||| fieldAt 0 s.cfg.ident.designerCont := by simp [pidr4]
    _ = 0#24 ++ 0b0000#4 ++ s.cfg.ident.designerCont := word_of_two_fields (k := 24) rfl _ _

/-! ## Reads of identification registers -/

/-- RD_ID(value) (42 head) is a read of a read-only register under the clause `coreOff`: no lock is in it. -/
theorem identRead_of {i : Instr} {s : State} {v : Word} {f : State → Word}
    (h : exec i s = .next (readIdent f i.ad s)) (hv : f s = v) : IdentRead i s v := by
  subst hv
  refine ⟨fun hr => ?_, fun hr => ?_⟩
  · rw [h, readIdent, readValue, readReg_readOnly _ ((coreOff_holds_iff s i.ad).2 hr)]; rfl
  · rw [h, readIdent, readValue, readReg_error _ _ (not_coreOff hr), raiseError_plain _ _ _ rfl]

theorem readOptionalIdent_of_implemented {s : State} (hc : s.cfg.has.coreSightID = true) (f : State → Word)
    (ad : AddrDesc) : readOptionalIdent f ad s = readIdent f ad s := if_pos hc

/-- Where the CoreSight identification registers are implemented, a read of one is RD_ID(value). -/
theorem identRead_of_optional {i : Instr} {s : State} {v : Word} {f : State → Word}
    (hc : s.cfg.has.coreSightID = true) (h : exec i s = .next (readOptionalIdent f i.ad s)) (hv : f s = v) :
    IdentRead i s v :=
  identRead_of (by rw [h, readOptionalIdent_of_implemented hc]) hv

/-- Settles O17: each of the reads is RD_ID() of a constant or of one of the EDPIDR values, by its arm of `exec`. -/
theorem coreSightIdentReads : Obligations.CoreSightIdentReads := by
  intro s ad hc
  have const {i : Instr} {v : Word} (h : exec i s = .next (readOptionalIdent (fun _ => v) i.ad s)) : IdentRead i s v :=
    identRead_of_optional hc h rfl
  have value {i : Instr} {v : Word} (f : State → Word) (hv : f s = v)
      (h : exec i s = .next (readOptionalIdent f i.ad s)) : IdentRead i s v := identRead_of_optional hc h hv
  refine ⟨?edcidr0, ?edcidr1, ?edcidr2, ?edcidr3, ?eddevtype, ?edpidr0, ?edpidr1, ?edpidr2, ?edpidr3, ?edpidr4⟩
  case edcidr0 | edcidr1 | edcidr2 | edcidr3 | eddevtype => exact const rfl
  case edpidr0 => exact value pidr0 (Claim.fieldAt_zero_byte _) rfl
  case edpidr1 => exact value pidr1 (pidr1_eq_append s) rfl
  case edpidr2 => exact value pidr2 (pidr2_eq_append s) rfl
  case edpidr3 => exact value pidr3 (pidr3_eq_append s) rfl
  case edpidr4 => exact value pidr4 (pidr4_eq_append s) rfl

end Sys2Proof.Proofs.Ident
end

section
/-!
Proofs of the family 46_ed_power_reset.md: the reserve control register EDRCR (`ReserveControlAccess`).
-/

namespace Sys2Proof.Proofs.ReserveControl

open Sys2Proof.Machine Sys2Proof.Safety

/-! ## Bits cleared by a mask -/

/-- To clear bit `k` is to clear the bits of the mask that holds `k` alone. -/
theorem setBit_false {n : Nat} (w : BitVec n) (k : Nat) : setBit w k false = w &&& ~~~(1#n <<< k) :=
  if_neg Bool.false_ne_true

/-- Bits cleared by one mask and then by another are cleared by the two masks together. -/
theorem clear_clear {n : Nat} (w a b : BitVec n) : w &&& ~~~a &&& ~~~b = w &&& ~~~(a ||| b) := by
  rw [BitVec.and_assoc, BitVec.not_or]

/-- A choice between clearing a mask and leaving the word is the clearing of a chosen mask. -/
theorem ite_clear {n : Nat} (c : Bool) (w m : BitVec n) :
    (if c then w &&& ~~~m else w) = w &&& ~~~(if c then m else 0) := by
  cases c
  · simp
  · rfl

/-! ## The actions of EDRCR on EDSCR -/

/-- What EDRCR.CSPA clears in EDSCR: PipeAdv (46 R671). -/
def pipeAdvCleared (d : Word) : Word := if d.getLsbD 3 then 0x02000000 else 0

/-- What EDRCR.CSE clears in EDSCR: TXU, RXO and ERR, and ITO in Debug state (46 R672). -/
def errorsCleared (halted : Bool) (d : Word) : Word :=
  if d.getLsbD 2 then (if halted then 0x1C000040 else 0x0C000040) else 0

theorem edscrClearPipeAdv_eq (w : Word) : edscrClearPipeAdv w = w &&& ~~~0x02000000 := setBit_false w 25

theorem edscrClearErrors_eq (halted : Bool) (w : Word) :
    edscrClearErrors halted w = w &&& ~~~(if halted then 0x1C000040 else 0x0C000040) := by
  have flags : setBit (setBit (setBit w 26 false) 27 false) 6 false = w &&& ~~~0x0C000040#32 := by
    simp only [setBit_false, clear_clear]
    rfl
  cases halted
  · exact flags
  · calc setBit (setBit (setBit (setBit w 26 false) 27 false) 6 false) 28 false
      _ = w &&& ~~~0x0C000040#32 &&& ~~~(1#32 <<< 28) := by rw [flags, setBit_false]
      _ = w &&& ~~~0x1C000040#32 := clear_clear w _ _

/-- 46 R673: the two actions on EDSCR are independent, so that their masks add up. -/
theorem writeEdrcrActions_edscr (d : Word) (s : State) :
    (writeEdrcrActions d s).ctl.edscr =
      s.ctl.edscr &&& ~~~(pipeAdvCleared d ||| errorsCleared s.hal.halted d) := by
  have pipe (w : Word) : (if d.getLsbD 3 then edscrClearPipeAdv w else w) = w &&& ~~~pipeAdvCleared d := by
    rw [edscrClearPipeAdv_eq, ite_clear]; rfl
  have errors (w : Word) :
      (if d.getLsbD 2 then edscrClearErrors s.hal.halted w else w) = w &&& ~~~errorsCleared s.hal.halted d := by
    rw [edscrClearErrors_eq, ite_clear]; rfl
  rw [← clear_clear, ← pipe, ← errors]
  rfl

/-- EDSCR and the permission of an imprecise entry are all that a write of EDRCR changes. -/
theorem writeEdrcrActions_eq (d : Word) (s : State) :
    writeEdrcrActions d s =
      { s with
        ctl := { s.ctl with edscr := s.ctl.edscr &&& ~~~(pipeAdvCleared d ||| errorsCleared s.hal.halted d) }
        hal := { s.hal with imprecise := s.hal.imprecise || (d.getLsbD 4 && s.cfg.has.cbrrq) } } := by
  rw [← writeEdrcrActions_edscr]
  rfl

/-! ## The accesses -/

/-- A read of a write-only register under the clause `locked` returns a free value, the Software Lock set or not. -/
theorem lockedRead_of_writeOnly {i : Instr} {s : State} {f : State → State}
    (h : exec i s = .next (readReg .locked .writeOnly i.ad s f)) : LockedRead i s (s.free32 .readWord) := by
  refine ⟨fun hu => ?_, fun hu => ?_⟩
  · rw [h, readReg_writeOnly _ ((locked_holds_iff s i.ad).2 hu)]; rfl
  · rw [h, readReg_error _ _ (not_locked hu), raiseError_plain _ _ _ rfl]

/-- Settles O39: the write is `writeEdrcrActions` under the clause `locked`; the read is that of a write-only register. -/
theorem reserveControlAccess : Obligations.ReserveControlAccess := by
  intro s d ad
  refine ⟨?write, ?read⟩
  case write => exact lockedWrite_of rfl (.inr rfl) (writeEdrcrActions_eq d s)
  case read =>
    obtain ⟨completes, refused⟩ := lockedRead_of_writeOnly (i := .rdEdrcr ad) (s := s) rfl
    exact ⟨fun hu => ⟨_, completes hu⟩, refused⟩

end Sys2Proof.Proofs.ReserveControl
end

section
/-!
Proofs about the decoder and the encoder: they are inverse to each other (`DecodeEncode`, `EncodeDecode`), and which
offsets the decoder refuses (`DecoderRefusesByName`).
-/

namespace Sys2Proof.Proofs.Encoding

open Sys2Proof.Machine Sys2Proof.Safety

/-! ## Bytes, words and descriptors -/

/-- A 16-bit value is its upper byte above its lower byte. -/
theorem append_bytes (k : BitVec 16) : (k.extractLsb' 8 8 ++ k.extractLsb' 0 8 : BitVec 16) = k :=
  (BitVec.extractLsb'_append_extractLsb'_eq_extractLsb' rfl).trans BitVec.extractLsb'_eq_self

/-- A word is put together again from its four bytes. -/
theorem wordOfBytes_byteOfWord (w : Word) :
    wordOfBytes (byteOfWord w 0) (byteOfWord w 1) (byteOfWord w 2) (byteOfWord w 3) = w := by
  apply BitVec.eq_of_getLsbD_eq
  intro j hj
  have at3 : 8 ≤ j → 16 ≤ j → 24 ≤ j → 24 + (j - 8 - 8 - 8) = j := by omega
  by_cases h0 : j < 8 <;> by_cases h1 : j < 16 <;> by_cases h2 : j < 24 <;>
    simp [wordOfBytes, byteOfWord] <;> grind

/-- The bytes of a word put together from four bytes are these. -/
theorem byteOfWord_wordOfBytes (b0 b1 b2 b3 : Byte) :
    byteOfWord (wordOfBytes b0 b1 b2 b3) 0 = b0 ∧ byteOfWord (wordOfBytes b0 b1 b2 b3) 1 = b1 ∧
    byteOfWord (wordOfBytes b0 b1 b2 b3) 2 = b2 ∧ byteOfWord (wordOfBytes b0 b1 b2 b3) 3 = b3 := by
  refine ⟨?_, ?_, ?_, ?_⟩ <;> apply BitVec.eq_of_getLsbD_eq <;> intro j hj <;>
    simp [wordOfBytes, byteOfWord] <;> grind

/-- The code of a descriptor has no reserved bit, and reads as the descriptor. -/
theorem addrDesc_byteOfAddrDesc (ad : AddrDesc) :
    (byteOfAddrDesc ad).extractLsb' 3 5 = 0 ∧ addrDescOfByte (byteOfAddrDesc ad) = ad := by
  obtain ⟨mm, ss⟩ := ad
  cases mm <;> cases ss <;> decide

/-- A descriptor byte without reserved bits is the code of what it reads as. -/
theorem byteOfAddrDesc_addrDesc (b : Byte) (h : b.extractLsb' 3 5 = 0) : byteOfAddrDesc (addrDescOfByte b) = b := by
  revert b
  decide

/-! ## The offset map -/

/-- The two transactions of `row` are those of the offset `off`: their keys are the offset under the direction bit, and they
hold what they are given. -/
structure RowAt (off : BitVec 12) (row : WordRow) : Prop where
  rd_key : ∀ ad, (row.rd ad).key = 0#1 ++ off
  rd_ad : ∀ ad, (row.rd ad).ad = ad
  rd_data : ∀ ad, (row.rd ad).data = 0
  rd_isWrite : ∀ ad, (row.rd ad).isWrite = false
  wr_key : ∀ d ad, (row.wr d ad).key = 1#1 ++ off
  wr_ad : ∀ d ad, (row.wr d ad).ad = ad
  wr_data : ∀ d ad, (row.wr d ad).data = d
  wr_isWrite : ∀ d ad, (row.wr d ad).isWrite = true

theorem rowAt_of_mem_fixedRows : ∀ r ∈ fixedRows, RowAt r.1 r.2 := by
  simp only [fixedRows, fixedRowsLow, fixedRowsFeature, fixedRowsIdent, List.cons_append, List.nil_append,
    List.forall_mem_cons]
  repeat' apply And.intro
  case right => exact fun r hr => absurd hr List.not_mem_nil
  all_goals
    exact ⟨fun _ => rfl, fun _ => rfl, fun _ => rfl, fun _ => rfl, fun _ _ => rfl, fun _ _ => rfl, fun _ _ => rfl,
      fun _ _ => rfl⟩

/-- The array word that the three bits beside the index select (R184). -/
def arrayWord (watch control high : Bool) (n : Index) : WordRow :=
  match watch, control, high with
  | false, false, false => ⟨.rdDbgbvrLo n, .wrDbgbvrLo n⟩
  | false, false, true => ⟨.rdDbgbvrHi n, .wrDbgbvrHi n⟩
  | false, true, false => ⟨.rdDbgbcrLo n, .wrDbgbcrLo n⟩
  | false, true, true => ⟨.rdDbgbcrHi n, .wrDbgbcrHi n⟩
  | true, false, false => ⟨.rdDbgwvrLo n, .wrDbgwvrLo n⟩
  | true, false, true => ⟨.rdDbgwvrHi n, .wrDbgwvrHi n⟩
  | true, true, false => ⟨.rdDbgwcrLo n, .wrDbgwcrLo n⟩
  | true, true, true => ⟨.rdDbgwcrHi n, .wrDbgwcrHi n⟩

theorem arrayRow_eq_arrayWord (off : BitVec 12) :
    arrayRow off = arrayWord (off.getLsbD 11) (off.getLsbD 3) (off.getLsbD 2) (off.extractLsb' 4 6) := by
  unfold arrayRow
  split <;> simp only [*, arrayWord]

/-- The offset of an array word (R184): bits [11:10] name the array, bits [9:4] are the index. -/
def arrayOffset (watch control high : Bool) (n : Index) : BitVec 12 :=
  BitVec.ofBool watch ++ BitVec.ofBool (!watch) ++ n ++ BitVec.ofBool control ++ BitVec.ofBool high ++ 0#2

theorem wordRow_arrayOffset (watch control high : Bool) (n : Index) :
    wordRow (arrayOffset watch control high n) = some (arrayWord watch control high n) := by
  have bits : isArrayOffset (arrayOffset watch control high n) = true ∧
      (arrayOffset watch control high n).getLsbD 11 = watch ∧ (arrayOffset watch control high n).getLsbD 3 = control ∧
      (arrayOffset watch control high n).getLsbD 2 = high ∧
      (arrayOffset watch control high n).extractLsb' 4 6 = n := by
    revert watch control high n
    decide
  obtain ⟨harray, hwatch, hcontrol, hhigh, hindex⟩ := bits
  rw [wordRow, if_pos harray, arrayRow_eq_arrayWord, hwatch, hcontrol, hhigh, hindex]

theorem rowAt_arrayWord (watch control high : Bool) (n : Index) :
    RowAt (arrayOffset watch control high n) (arrayWord watch control high n) := by
  have keys (dir : Bool) : arrayKey (BitVec.ofBool dir ++ arrayOffset watch control high 0) n =
      BitVec.ofBool dir ++ arrayOffset watch control high n := by
    revert dir watch control high n
    decide
  have rd := keys false
  have wr := keys true
  cases watch <;> cases control <;> cases high <;>
    exact ⟨fun _ => rd, fun _ => rfl, fun _ => rfl, fun _ => rfl, fun _ _ => wr, fun _ _ => rfl, fun _ _ => rfl,
      fun _ _ => rfl⟩

theorem extractLsb'_two_bits {w : Nat} (v : BitVec w) (lo : Nat) :
    v.extractLsb' lo 2 = BitVec.ofBool (v.getLsbD (lo + 1)) ++ BitVec.ofBool (v.getLsbD lo) := by
  apply BitVec.eq_of_getLsbD_eq
  intro j hj
  rw [BitVec.getLsbD_append]
  interval_cases j <;> simp

theorem isArrayOffset_iff (off : BitVec 12) : isArrayOffset off = true ↔ off.getLsbD 10 = !off.getLsbD 11 := by
  rw [isArrayOffset, extractLsb'_two_bits]
  cases off.getLsbD 11 <;> cases off.getLsbD 10 <;> decide

/-- Offset bits [1:0] are 0. -/
theorem aligned_iff (off : BitVec 12) :
    off.extractLsb' 0 2 = 0 ↔ off.getLsbD 1 = false ∧ off.getLsbD 0 = false := by
  rw [extractLsb'_two_bits]
  cases off.getLsbD 1 <;> cases off.getLsbD 0 <;> decide

/-- An aligned offset in the arrays is that of an array word. -/
theorem eq_arrayOffset {off : BitVec 12} (h : isArrayOffset off = true) (ha : off.extractLsb' 0 2 = 0) :
    off = arrayOffset (off.getLsbD 11) (off.getLsbD 3) (off.getLsbD 2) (off.extractLsb' 4 6) := by
  have h10 := (isArrayOffset_iff off).1 h
  obtain ⟨h1, h0⟩ := (aligned_iff off).1 ha
  apply BitVec.eq_of_getLsbD_eq
  intro j hj
  rw [arrayOffset, BitVec.getLsbD_append, BitVec.getLsbD_append, BitVec.getLsbD_append, BitVec.getLsbD_append,
    BitVec.getLsbD_append]
  interval_cases j <;> simp_all

/-- The map gives every offset the transactions of that offset. -/
theorem rowAt_of_wordRow {off : BitVec 12} {row : WordRow} (h : wordRow off = some row) (ha : off.extractLsb' 0 2 = 0) :
    RowAt off row := by
  by_cases hi : isArrayOffset off = true
  · rw [eq_arrayOffset hi ha, wordRow_arrayOffset] at h
    rw [eq_arrayOffset hi ha, ← Option.some.inj h]
    exact rowAt_arrayWord _ _ _ _
  · rw [wordRow, if_neg hi] at h
    obtain ⟨r, hr, rfl⟩ := Option.map_eq_some_iff.1 h
    have hoff : r.1 = off := by simpa using List.find?_some hr
    exact hoff ▸ rowAt_of_mem_fixedRows r (List.mem_of_find?_eq_some hr)

/-- Every transaction is one of a register word with an aligned offset: the write, if it is a write, else the read. -/
theorem exists_wordRow (i : Instr) :
    ∃ off row, wordRow off = some row ∧ off.extractLsb' 0 2 = 0 ∧
      i = if i.isWrite then row.wr i.data i.ad else row.rd i.ad := by
  have array (watch control high : Bool) (n : Index) :=
    wordRow_arrayOffset watch control high n
  have aligned (watch control high : Bool) (n : Index) : (arrayOffset watch control high n).extractLsb' 0 2 = 0 :=
    BitVec.extractLsb'_append_eq_right
  have fixed {i : Instr} (ha : (i.key.extractLsb' 0 12).extractLsb' 0 2 = 0)
      (hi : (wordRow (i.key.extractLsb' 0 12)).map (fun row => if i.isWrite then row.wr i.data i.ad else row.rd i.ad) =
        some i) :
      ∃ off row, wordRow off = some row ∧ off.extractLsb' 0 2 = 0 ∧
        i = if i.isWrite then row.wr i.data i.ad else row.rd i.ad := by
    obtain ⟨row, hrow, heq⟩ := Option.map_eq_some_iff.1 hi
    exact ⟨_, row, hrow, ha, heq.symm⟩
  cases i
  case rdDbgbvrLo n ad | wrDbgbvrLo n d ad => exact ⟨_, _, array false false false n, aligned _ _ _ _, rfl⟩
  case rdDbgbvrHi n ad | wrDbgbvrHi n d ad => exact ⟨_, _, array false false true n, aligned _ _ _ _, rfl⟩
  case rdDbgbcrLo n ad | wrDbgbcrLo n d ad => exact ⟨_, _, array false true false n, aligned _ _ _ _, rfl⟩
  case rdDbgbcrHi n ad | wrDbgbcrHi n d ad => exact ⟨_, _, array false true true n, aligned _ _ _ _, rfl⟩
  case rdDbgwvrLo n ad | wrDbgwvrLo n d ad => exact ⟨_, _, array true false false n, aligned _ _ _ _, rfl⟩
  case rdDbgwvrHi n ad | wrDbgwvrHi n d ad => exact ⟨_, _, array true false true n, aligned _ _ _ _, rfl⟩
  case rdDbgwcrLo n ad | wrDbgwcrLo n d ad => exact ⟨_, _, array true true false n, aligned _ _ _ _, rfl⟩
  case rdDbgwcrHi n ad | wrDbgwcrHi n d ad => exact ⟨_, _, array true true true n, aligned _ _ _ _, rfl⟩
  all_goals
    apply fixed
    · rw [Instr.key]; rfl
    · rw [Instr.key]; rfl

/-! ## The decoder -/

/-- The 16 bits that carry a key: three zeros, the direction and the offset. -/
theorem key_parts (dir : Bool) (off : BitVec 12) :
    ((BitVec.ofBool dir ++ off : BitVec 13).setWidth 16).extractLsb' 13 3 = 0 ∧
    ((BitVec.ofBool dir ++ off : BitVec 13).setWidth 16).extractLsb' 0 12 = off ∧
    ((BitVec.ofBool dir ++ off : BitVec 13).setWidth 16).getLsbD 12 = dir := by
  have bit (j : Nat) : BitVec.getLsbD (w := 1 + 12) (BitVec.ofBool dir ++ off) j =
      if j < 12 then off.getLsbD j else (BitVec.ofBool dir).getLsbD (j - 12) := BitVec.getLsbD_append
  refine ⟨BitVec.eq_of_getLsbD_eq fun j hj => ?_, BitVec.eq_of_getLsbD_eq fun j hj => ?_, ?_⟩
  · rw [BitVec.getLsbD_extractLsb', BitVec.getLsbD_setWidth, BitVec.getLsbD_of_ge _ (13 + j) (by omega)]
    simp
  · rw [BitVec.getLsbD_extractLsb', BitVec.getLsbD_setWidth, Nat.zero_add, show BitVec.getLsbD (w := 13) _ j = _ from bit j]
    simp [hj, show j < 16 by omega]
  · rw [BitVec.getLsbD_setWidth, show BitVec.getLsbD (w := 13) _ 12 = _ from bit 12]
    simp

theorem key_eq_of_parts {key : BitVec 16} (h : key.extractLsb' 13 3 = 0) :
    key = (BitVec.ofBool (key.getLsbD 12) ++ key.extractLsb' 0 12 : BitVec 13).setWidth 16 := by
  have bit (j : Nat) : BitVec.getLsbD (w := 1 + 12) (BitVec.ofBool (key.getLsbD 12) ++ key.extractLsb' 0 12) j =
      if j < 12 then (key.extractLsb' 0 12).getLsbD j else (BitVec.ofBool (key.getLsbD 12)).getLsbD (j - 12) :=
    BitVec.getLsbD_append
  have high (j : Nat) (hj : j < 3) : key.getLsbD (13 + j) = false := by
    have := congrArg (·.getLsbD j) h
    simpa [hj] using this
  apply BitVec.eq_of_getLsbD_eq
  intro j hj
  rw [BitVec.getLsbD_setWidth, show BitVec.getLsbD (w := 13) _ j = _ from bit j]
  by_cases h12 : j < 12
  · simp [h12, hj]
  · obtain rfl | h13 : j = 12 ∨ 13 ≤ j := by omega
    · simp
    · have := high (j - 13) (by omega)
      rw [show 13 + (j - 13) = j by omega] at this
      simp [this, h12, show j - 12 ≠ 0 by omega]

/-- What the decoder accepts, and what it makes of it. -/
theorem decodeParts_eq_ok_iff (key : BitVec 16) (desc : Byte) (data : Word) (i : Instr) :
    decodeParts key desc data = .ok i ↔
      key.extractLsb' 13 3 = 0 ∧ (key.extractLsb' 0 12).extractLsb' 0 2 = 0 ∧ desc.extractLsb' 3 5 = 0 ∧
        ∃ row, wordRow (key.extractLsb' 0 12) = some row ∧
          (if key.getLsbD 12 then row.wr data (addrDescOfByte desc) = i
          else data = 0 ∧ row.rd (addrDescOfByte desc) = i) := by
  unfold decodeParts
  by_cases hkey : key.extractLsb' 13 3 = 0
  case neg => simp only [hkey, ne_eq, not_false_eq_true, if_true, false_and, reduceCtorEq]
  by_cases halign : (key.extractLsb' 0 12).extractLsb' 0 2 = 0
  case neg =>
    simp only [hkey, halign, ne_eq, not_false_eq_true, not_true_eq_false, if_true, if_false, false_and, and_false,
      reduceCtorEq]
  by_cases hdesc : desc.extractLsb' 3 5 = 0
  case neg =>
    simp only [hkey, halign, hdesc, ne_eq, not_false_eq_true, not_true_eq_false, if_true, if_false, false_and, and_false,
      reduceCtorEq]
  simp only [hkey, halign, hdesc, ne_eq, not_true_eq_false, if_false, true_and]
  cases wordRow (key.extractLsb' 0 12) with
  | none => simp
  | some row =>
    cases key.getLsbD 12
    · by_cases hdata : data = 0
      · simp [hdata]
      · simp only [hdata, Bool.false_eq_true, not_false_eq_true, if_true, if_false, Option.some.injEq, exists_eq_left',
          false_and, reduceCtorEq]
    · simp

/-- The decoder reads a transaction from its key, its descriptor and its data. -/
theorem decodeParts_encodeParts (i : Instr) :
    decodeParts (i.key.setWidth 16) (byteOfAddrDesc i.ad) i.data = .ok i := by
  obtain ⟨off, row, hrow, haligned, hi⟩ := exists_wordRow i
  have hr := rowAt_of_wordRow hrow haligned
  obtain ⟨hdesc, had⟩ := addrDesc_byteOfAddrDesc i.ad
  obtain ⟨hkey, hdata⟩ : i.key = BitVec.ofBool i.isWrite ++ off ∧ (i.isWrite = false → i.data = 0) := by
    cases hw : i.isWrite <;> rw [hw] at hi
    · exact ⟨hi ▸ hr.rd_key _, fun _ => hi ▸ hr.rd_data _⟩
    · exact ⟨hi ▸ hr.wr_key _ _, fun h => absurd h (by decide)⟩
  obtain ⟨hzero, hoff, hdir⟩ := key_parts i.isWrite off
  rw [decodeParts_eq_ok_iff, hkey, hzero, hoff, hdir, had]
  refine ⟨rfl, haligned, hdesc, row, hrow, ?_⟩
  cases hw : i.isWrite <;> rw [hw] at hi
  · exact ⟨hdata hw, hi.symm⟩
  · exact hi.symm

/-- The decoder accepts only the key, the descriptor and the data of what it reads. -/
theorem encodeParts_of_decodeParts {key : BitVec 16} {desc : Byte} {data : Word} {i : Instr}
    (h : decodeParts key desc data = .ok i) :
    i.key.setWidth 16 = key ∧ byteOfAddrDesc i.ad = desc ∧ i.data = data := by
  obtain ⟨hkey, haligned, hdesc, row, hrow, hi⟩ := (decodeParts_eq_ok_iff key desc data i).1 h
  have hr := rowAt_of_wordRow hrow haligned
  have hparts := (key_eq_of_parts hkey).symm
  have hbyte := byteOfAddrDesc_addrDesc desc hdesc
  cases hw : key.getLsbD 12 <;> rw [hw] at hi hparts
  · obtain ⟨rfl, rfl⟩ := hi
    exact ⟨hr.rd_key _ ▸ hparts, (hr.rd_ad _).symm ▸ hbyte, hr.rd_data _⟩
  · obtain rfl := hi
    exact ⟨hr.wr_key _ _ ▸ hparts, (hr.wr_ad _ _).symm ▸ hbyte, hr.wr_data _ _⟩

/-- Settles O2: the bytes are put together to the key, the descriptor and the data of the transaction. -/
theorem decodeEncode : Obligations.DecodeEncode := by
  intro i rest
  simp only [encode, List.cons_append, List.nil_append, decode, append_bytes, wordOfBytes_byteOfWord,
    decodeParts_encodeParts]

/-- Settles O3: a frame is the seven bytes of the key, the descriptor and the data of what the decoder reads from it. -/
theorem encodeDecode : Obligations.EncodeDecode := by
  intro bytes rest i h
  match bytes, h with
  | k0 :: k1 :: a :: d0 :: d1 :: d2 :: d3 :: rest', h =>
    rw [decode] at h
    cases hp : decodeParts (k1 ++ k0) a (wordOfBytes d0 d1 d2 d3) with
    | error e => simp [hp] at h
    | ok j =>
      simp only [hp, Except.ok.injEq, Prod.mk.injEq] at h
      obtain ⟨rfl, rfl⟩ := h
      obtain ⟨hkey, had, hdata⟩ := encodeParts_of_decodeParts hp
      obtain ⟨h0, h1, h2, h3⟩ := byteOfWord_wordOfBytes d0 d1 d2 d3
      simp only [encode, hkey, had, hdata, h0, h1, h2, h3, List.cons_append, List.nil_append]
      rw [show (k1 ++ k0 : BitVec 16).extractLsb' 0 8 = k0 from BitVec.extractLsb'_append_eq_right,
        show (k1 ++ k0 : BitVec 16).extractLsb' 8 8 = k1 from BitVec.extractLsb'_append_eq_left]

/-! ## The offsets that the decoder refuses -/

theorem isArrayOffset_eq_range (off : BitVec 12) :
    isArrayOffset off = decide (0x400 ≤ off.toNat ∧ off.toNat ≤ 0xBFF) := by
  have hlt := off.isLt
  have htop : (off.extractLsb' 10 2).toNat = off.toNat / 1024 := by
    rw [BitVec.extractLsb'_toNat, Nat.shiftRight_eq_div_pow]
    omega
  rw [isArrayOffset, Bool.eq_iff_iff]
  have one : (1 : BitVec 2).toNat = 1 := rfl
  have two : (2 : BitVec 2).toNat = 2 := rfl
  simp only [Bool.or_eq_true, decide_eq_true_eq, ← BitVec.toNat_inj, htop, one, two]
  omega

theorem map_fixedRows : fixedRows.map Prod.fst = fixedOffsets := rfl

/-- The map has a register word exactly at the listed offsets. -/
theorem wordRow_isSome_eq_listed (off : BitVec 12) : (wordRow off).isSome = listed off := by
  rw [listed, ← isArrayOffset_eq_range]
  unfold wordRow
  cases isArrayOffset off
  · rw [Bool.false_or, ← map_fixedRows, Bool.eq_iff_iff]
    simp [Option.isSome_map, List.find?_isSome]
  · rfl

/-- Settles O4: by the order of the decoder's tests, of which the keys and descriptors at hand pass the first and the third. -/
theorem decoderRefusesByName : Obligations.DecoderRefusesByName := by
  intro key desc data hkey hdesc off
  have hlisted := wordRow_isSome_eq_listed off
  refine ⟨fun ha => ?misaligned, fun ha hl => ?unlisted, fun ha hl hw => ?write, fun ha hl hw hd => ?read⟩
  case misaligned => rw [decodeParts, if_neg (not_not.2 hkey), if_pos ha]
  case unlisted =>
    rw [hl, Option.isSome_eq_false_iff, Option.isNone_iff_eq_none] at hlisted
    rw [decodeParts, if_neg (not_not.2 hkey), if_neg (not_not.2 ha), if_neg (not_not.2 hdesc),
      show wordRow (key.extractLsb' 0 12) = none from hlisted]
  case write =>
    obtain ⟨row, hrow⟩ := Option.isSome_iff_exists.1 (hlisted.trans hl)
    have hr := rowAt_of_wordRow hrow ha
    refine ⟨row.wr data (addrDescOfByte desc), ?_, hr.wr_isWrite _ _, hr.wr_data _ _⟩
    rw [decodeParts_eq_ok_iff]
    exact ⟨hkey, ha, hdesc, row, hrow, by rw [hw]; rfl⟩
  case read =>
    obtain ⟨row, hrow⟩ := Option.isSome_iff_exists.1 (hlisted.trans hl)
    have hr := rowAt_of_wordRow hrow ha
    refine ⟨row.rd (addrDescOfByte desc), ?_, hr.rd_isWrite _⟩
    rw [decodeParts_eq_ok_iff]
    exact ⟨hkey, ha, hdesc, row, hrow, by rw [hw]; exact ⟨hd, rfl⟩⟩

end Sys2Proof.Proofs.Encoding
end

section
/-!
What a transaction can do, said once: it returns ERROR, completes without effect, or has its effect; and the statements about
all transactions that follow (`ErrorsChangeOnlySdad`, `SoftwareLockFreezesTheBlock`, `AccessesLeaveThePe`,
`LocksMoveOnlyThroughTheirRegisters`).
-/

namespace Sys2Proof.Proofs.Transaction

open Sys2Proof.Machine Sys2Proof.Safety

/-! ## The effect and the outcomes of a transaction -/

/-- What a transaction changes beside its response, where it has its effect: the write of a register that stores its data, or
the side effect of a read. -/
def effect (i : Instr) (s : State) : State :=
  match i with
  | .wrEdesr d _ => writeEdesrBits d s
  | .wrEdecr d _ => writeEdecrFields d s
  | .wrEdscr2 d _ => writeEdscr2Fields d s
  | .rdDbgdtrrx _ => s.memoryModeEffects
  | .wrDbgdtrrx d _ => writeRx d s
  | .wrEditr d _ => writeItr d s
  | .wrEdscr d _ => writeEdscrFields d s
  | .rdDbgdtrtx _ => if s.memoryMode then s.memoryModeEffects else readTxFlags s
  | .wrDbgdtrtx d _ => if s.memoryMode then s.memoryModeEffects else { s with dcc := { s.dcc with dtrtx := d } }
  | .wrEdrcr d _ => writeEdrcrActions d s
  | .wrEdacr d ad =>
    { s with
      ctl :=
        { s.ctl with
          edacr :=
            if s.acrAccessible ad = 0 then d
            else merge (s.acrAccessible ad) (if writeStores (ladderImpdefRW s ad .edacr) then d else s.ctl.edacr) d } }
  | .wrEdeccr d _ => writeEdeccrFields d s
  | .rdEdpcsrLo ad => { s with smp := s.takeSample ad }
  | .wrOslar d _ => s.writeOsLock (d.getLsbD 0)
  | .wrEdprcr d ad => writeEdprcrFields ad d s
  | .rdEdprsr ad => { s with sticky := s.clearSticky ad }
  | .wrDbgbvrLo n d _ => writeBvr n false d s
  | .wrDbgbvrHi n d _ => writeBvr n true d s
  | .wrDbgbcrLo n d _ => writeBcrLo n d s
  | .wrDbgbcrHi n d _ => writeBcrHi n d s
  | .wrDbgwvrLo n d _ => writeWvr n false d s
  | .wrDbgwvrHi n d _ => writeWvr n true d s
  | .wrDbgwcrLo n d _ => writeWcrLo n d s
  | .wrDbgwcrHi n d _ => writeWcrHi n d s
  | .wrEditctrl d _ =>
    { s with ctl := { s.ctl with editctrl := writeStored s.cfg.opt.res0Storage 1 (~~~1) s.ctl.editctrl d } }
  | .wrDbgclaimset d _ => s.setClaim (s.dcc.claim ||| d.setWidth 8)
  | .wrDbgclaimclr d _ => s.setClaim (s.dcc.claim &&& ~~~d.setWidth 8)
  | .wrEdlar d ad =>
    if s.cfg.hasSoftwareLock && ad.memoryMapped then { s with lock := { s.lock with slk := d != lockKey } } else s
  | _ => s

/-- The clause by which a transaction is refused: it names AllowExternalDebugAccess() if the transaction is one that is
checked, and then OSLockStatus() unless the transaction is of OSLAR_EL1. -/
structure ClauseOf (i : Instr) (c : Config) (e : ErrorClause) : Prop where
  namesAllow : e.namesAllow = accessChecked c i
  namesOSLock : e.namesAllow = true → e.namesOSLock = !isOslar i

/-- The Software Lock does not keep the transaction from its effect. -/
abbrev Admitted (i : Instr) (s : State) : Prop := s.softLock i.ad = false ∨ passesSoftwareLock i = true

/-- The outcomes of a transaction. -/
inductive Outcome (i : Instr) (s : State) : State → Prop where
  | refused (e : ErrorClause) (h : ClauseOf i s.cfg e) : Outcome i s (s.raiseError i.ad e)
  | read (v : Word) : Outcome i s (s.okRead v)
  | ignored : Outcome i s s.okWrite
  | sideEffect (v : Word) (h : Admitted i s) : Outcome i s ((effect i s).okRead v)
  | stored (h : Admitted i s) : Outcome i s (effect i s).okWrite

/-! ## The outcomes of each shape of a meaning -/

section Shapes

variable {i : Instr} {s : State} {e : ErrorClause} {k : AccessKind}

theorem ClauseOf.plain {c : Config} (he : e.namesAllow = false) (hi : accessChecked c i = false) : ClauseOf i c e :=
  ⟨he.trans hi.symm, fun h => absurd (he.symm.trans h) Bool.false_ne_true⟩

theorem ClauseOf.guarded {c : Config} (hi : accessChecked c i = true) (ho : isOslar i = false) : ClauseOf i c .guarded :=
  ⟨hi.symm, fun _ => by rw [ho]; rfl⟩

theorem outcome_of_readValue (hc : ClauseOf i s.cfg e) (f : State → Word) : Outcome i s (readValue e k i.ad s f) := by
  unfold readValue
  rcases readReg_cases e k i.ad s fun t => t.okRead (f t) with ⟨-, h⟩ | ⟨-, h | h⟩ <;> rw [h]
  · exact .refused e hc
  · exact .read _
  · exact .read _

/-- A read of a write-only register, under either interface, returns a free value. -/
theorem outcome_of_readWriteOnly (hc : ClauseOf i s.cfg e) (hk : k = .writeOnly ∨ k = .writeOnlyUnlocked)
    (f : State → State) : Outcome i s (readReg e k i.ad s f) := by
  cases he : e.holds s i.ad
  · rcases hk with rfl | rfl
    · rw [readReg_writeOnly f he]; exact .read _
    · rw [readReg_writeOnlyUnlocked f he]; exact .read _
  · rw [readReg_error k f he]; exact .refused e hc

theorem outcome_of_writeReadOnly (hc : ClauseOf i s.cfg e) : Outcome i s (writeReg e .readOnly i.ad s id) := by
  cases he : e.holds s i.ad
  · rw [writeReg_readOnly _ he]; exact .ignored
  · rw [writeReg_error _ _ he]; exact .refused e hc

/-- A write under a ladder with the Software Lock in it. -/
theorem outcome_of_writeReg (hc : ClauseOf i s.cfg e) (hk : k = .readWrite ∨ k = .writeOnly) {f : State → State}
    (hf : f s = effect i s) : Outcome i s (writeReg e k i.ad s f) := by
  cases he : e.holds s i.ad
  case true => rw [writeReg_error _ _ he]; exact .refused e hc
  cases hl : s.softLock i.ad
  · have : writeReg e k i.ad s f = (effect i s).okWrite := by
      rcases hk with rfl | rfl
      · rw [writeReg_readWrite f he hl, hf]
      · rw [writeReg_writeOnly f he hl, hf]
    exact this ▸ .stored (.inl hl)
  · have : writeReg e k i.ad s f = s.okWrite := by
      rcases hk with rfl | rfl
      · exact writeReg_readWrite_locked f he hl
      · exact writeReg_writeOnly_locked f he hl
    exact this ▸ .ignored

/-- A write that passes the Software Lock. -/
theorem outcome_of_writeReg_passing (hc : ClauseOf i s.cfg e) (hp : passesSoftwareLock i = true) {f : State → State}
    (hf : f s = effect i s) : Outcome i s (writeReg e k i.ad s f) := by
  rcases writeReg_cases e k i.ad s f with ⟨-, h⟩ | ⟨-, h | h⟩ <;> rw [h]
  · exact .refused e hc
  · rw [hf]; exact .stored (.inr hp)
  · exact .ignored

theorem outcome_of_readBy (hc : ClauseOf i s.cfg e) (r : AccessResult) (f : State → Word) :
    Outcome i s (readBy r e i.ad s fun t => t.okRead (f t)) := by
  rcases readBy_cases r e i.ad s fun t => t.okRead (f t) with h | h | h <;> rw [h]
  · exact .refused e hc
  · exact .read _
  · exact .read _

theorem outcome_of_writeBy_id (hc : ClauseOf i s.cfg e) (r : AccessResult) : Outcome i s (writeBy r e i.ad s id) := by
  rcases writeBy_cases r e i.ad s id with h | h | h <;> rw [h]
  · exact .refused e hc
  · exact .ignored
  · exact .ignored

theorem outcome_of_absentRead (hc : ClauseOf i s.cfg e) (may : Bool) :
    Outcome i s (absent may e i.ad s fun t => t.okRead 0) := by
  rcases absent_cases may e i.ad s fun t => t.okRead 0 with h | ⟨-, h⟩ <;> rw [h]
  · exact .read 0
  · exact .refused e hc

theorem outcome_of_absentWrite (hc : ClauseOf i s.cfg e) (may : Bool) :
    Outcome i s (absent may e i.ad s fun t => t.okWrite) := by
  rcases absent_cases may e i.ad s fun t => t.okWrite with h | ⟨-, h⟩ <;> rw [h]
  · exact .ignored
  · exact .refused e hc

end Shapes

/-! ## The shapes that branch on the implementation -/

section Branches

variable {i : Instr} {s : State}

theorem outcome_of_readReserved (hi : accessChecked s.cfg i = false) : Outcome i s (readReserved i.ad s) :=
  outcome_of_absentRead (.plain rfl hi) _

theorem outcome_of_writeReserved (hi : accessChecked s.cfg i = false) : Outcome i s (writeReserved i.ad s) :=
  outcome_of_absentWrite (.plain rfl hi) _

theorem outcome_of_readOptionalIdent (hi : accessChecked s.cfg i = false) (f : State → Word) :
    Outcome i s (readOptionalIdent f i.ad s) := by
  unfold readOptionalIdent
  split
  · exact outcome_of_readValue (.plain rfl hi) f
  · exact outcome_of_readReserved hi

theorem outcome_of_writeOptionalIdent (hi : accessChecked s.cfg i = false) :
    Outcome i s (writeOptionalIdent i.ad s) := by
  unfold writeOptionalIdent
  split
  · exact outcome_of_writeReadOnly (.plain rfl hi)
  · exact outcome_of_writeReserved hi

theorem outcome_of_readSampleReg (hi : accessChecked s.cfg i = false) (present : Bool) (f : State → Word) :
    Outcome i s (readSampleReg present f i.ad s) := by
  unfold readSampleReg
  split
  · exact outcome_of_readValue (.plain rfl hi) f
  · exact outcome_of_absentRead (.plain rfl hi) _

theorem outcome_of_writeSampleReg (hi : accessChecked s.cfg i = false) (present : Bool) :
    Outcome i s (writeSampleReg present i.ad s) := by
  unfold writeSampleReg
  split
  · exact outcome_of_writeReadOnly (.plain rfl hi)
  · exact outcome_of_absentWrite (.plain rfl hi) _

theorem outcome_of_readEdhsr (hi : accessChecked s.cfg i = false) (hi' : Bool) : Outcome i s (readEdhsr hi' i.ad s) := by
  unfold readEdhsr
  split
  · exact outcome_of_readValue (.plain rfl hi) _
  · exact outcome_of_absentRead (.plain rfl hi) _

theorem outcome_of_writeEdhsr (hi : accessChecked s.cfg i = false) : Outcome i s (writeEdhsr i.ad s) := by
  unfold writeEdhsr
  split
  · exact outcome_of_writeReadOnly (.plain rfl hi)
  · exact outcome_of_absentWrite (.plain rfl hi) _

theorem outcome_of_readFeature (hi : accessChecked s.cfg i = false) (reg : ImpdefReg) (b hi' : Bool) (v : Dword) :
    Outcome i s (readFeature reg b hi' v i.ad s) :=
  outcome_of_readBy (.plain rfl hi) _ _

theorem outcome_of_writeFeature (hi : accessChecked s.cfg i = false) (reg : ImpdefReg) (b : Bool) :
    Outcome i s (writeFeature reg b i.ad s) :=
  outcome_of_writeBy_id (.plain rfl hi) _

theorem outcome_of_readBreakpoint (hc : ClauseOf i s.cfg .guarded) (n : Index) (f : State → Word) :
    Outcome i s (readBreakpoint n i.ad s f) := by
  unfold readBreakpoint
  split
  · exact outcome_of_readValue hc f
  · exact outcome_of_absentRead hc _

theorem outcome_of_writeBreakpoint (hc : ClauseOf i s.cfg .guarded) (n : Index) {f : State → State}
    (hf : f s = effect i s) : Outcome i s (writeBreakpoint n i.ad s f) := by
  unfold writeBreakpoint
  split
  · exact outcome_of_writeReg hc (.inl rfl) hf
  · exact outcome_of_absentWrite hc _

theorem outcome_of_readWatchpoint (hc : ClauseOf i s.cfg .guarded) (n : Index) (f : State → Word) :
    Outcome i s (readWatchpoint n i.ad s f) := by
  unfold readWatchpoint
  split
  · exact outcome_of_readValue hc f
  · exact outcome_of_absentRead hc _

theorem outcome_of_writeWatchpoint (hc : ClauseOf i s.cfg .guarded) (n : Index) {f : State → State}
    (hf : f s = effect i s) : Outcome i s (writeWatchpoint n i.ad s f) := by
  unfold writeWatchpoint
  split
  · exact outcome_of_writeReg hc (.inl rfl) hf
  · exact outcome_of_absentWrite hc _

/-- A high control word: reserved where its breakpoint or watchpoint is implemented without FEAT_Debugv8p9, and checked
otherwise (30_encoding.md R190 a). -/
theorem outcome_of_highWord {present : Bool} {reserved checked : State} (ho : isOslar i = false)
    (hi : accessChecked s.cfg i = (s.cfg.dbg.debugv8p9 || !present))
    (hr : accessChecked s.cfg i = false → Outcome i s reserved)
    (hc : ClauseOf i s.cfg .guarded → Outcome i s checked) :
    Outcome i s (if present && !s.cfg.dbg.debugv8p9 then reserved else checked) := by
  split
  · rename_i h
    simp only [Bool.and_eq_true, Bool.not_eq_true'] at h
    exact hr (by rw [hi, h.1, h.2]; rfl)
  · rename_i h
    refine hc (.guarded ?_ ho)
    rw [hi]
    revert h
    cases present <;> cases s.cfg.dbg.debugv8p9 <;> simp

end Branches

theorem decide_le_eq_not_hasBreakpoint (c : Config) (n : Index) : decide (c.pe.numBrp ≤ n.toNat) = !c.hasBreakpoint n := by
  simp [Config.hasBreakpoint, ← decide_not]

theorem decide_le_eq_not_hasWatchpoint (c : Config) (n : Index) : decide (c.pe.numWrp ≤ n.toNat) = !c.hasWatchpoint n := by
  simp [Config.hasWatchpoint, ← decide_not]

/-! ## Reads with a side effect -/

/-- A read under a ladder, whatever the register's own read does. -/
theorem outcome_of_readReg {i : Instr} {s : State} {e : ErrorClause} (hc : ClauseOf i s.cfg e) (k : AccessKind)
    {f : State → State} (hf : Outcome i s (f s)) : Outcome i s (readReg e k i.ad s f) := by
  rcases readReg_cases e k i.ad s f with ⟨-, h⟩ | ⟨-, h | h⟩ <;> rw [h]
  · exact .refused e hc
  · exact hf
  · exact .read _

theorem outcome_of_rdDbgdtrrx (ad : AddrDesc) (s : State) :
    Outcome (.rdDbgdtrrx ad) s (if s.memoryMode && !s.softLock ad then s.memoryModeEffects.okRead (s.free32 .readWord)
      else s.okRead s.dcc.dtrrx) := by
  split
  · rename_i h
    simp only [Bool.and_eq_true, Bool.not_eq_true'] at h
    exact .sideEffect _ (.inl h.2)
  · exact .read _

theorem outcome_of_rdDbgdtrtx (ad : AddrDesc) (s : State) :
    Outcome (.rdDbgdtrtx ad) s (if s.softLock ad then s.okRead s.txValue
      else if s.memoryMode then s.memoryModeEffects.okRead (s.free32 .readWord)
      else (readTxFlags s).okRead s.txValue) := by
  split
  · exact .read _
  · rename_i hl
    have admitted : Admitted (.rdDbgdtrtx ad) s := .inl (Bool.not_eq_true _ ▸ hl)
    have done (v : Word) : Outcome (.rdDbgdtrtx ad) s ((if s.memoryMode then s.memoryModeEffects else readTxFlags s).okRead v) :=
      .sideEffect v admitted
    split
    · rename_i hm; simpa [hm] using done (s.free32 .readWord)
    · rename_i hm; simpa [hm] using done s.txValue

/-- A read of EDPRSR under the Software Lock clears nothing (D32). -/
theorem clearSticky_of_locked {s : State} {ad : AddrDesc} (h : s.softLock ad = true) : s.clearSticky ad = s.sticky := by
  simp [State.clearSticky, h]

theorem outcome_of_rdEdprsr (ad : AddrDesc) (s : State) :
    Outcome (.rdEdprsr ad) s { s with sticky := s.clearSticky ad, response := .okRead (edprsrValue ad s) } := by
  cases hl : s.softLock ad
  · exact .sideEffect _ (.inl hl)
  · rw [clearSticky_of_locked hl]; exact .read _

/-! ## EDACR and EDITCTRL -/

theorem outcome_of_rdEdacr (ad : AddrDesc) (s : State) :
    Outcome (.rdEdacr ad) s (if s.cfg.has.edacr then readEdacr ad s else readReserved ad s) := by
  split
  · by_cases h : s.acrAccessible ad = 0
    · rw [readEdacr, if_pos h]; exact outcome_of_readBy (i := .rdEdacr ad) (.plain rfl rfl) _ fun t => t.ctl.edacr
    · rw [readEdacr, if_neg h]; exact .read _
  · exact outcome_of_readReserved (i := .rdEdacr ad) rfl

theorem outcome_of_wrEdacr (d : Word) (ad : AddrDesc) (s : State) :
    Outcome (.wrEdacr d ad) s (if s.cfg.has.edacr then writeEdacr d ad s else writeReserved ad s) := by
  have done : Outcome (.wrEdacr d ad) s (effect (.wrEdacr d ad) s).okWrite := .stored (.inr rfl)
  split
  · by_cases h : s.acrAccessible ad = 0
    · rw [writeEdacr, if_pos h]
      simp only [effect, if_pos h] at done
      rcases writeBy_cases (ladderImpdefRW s ad .edacr) .coreOff ad s
        fun t => { t with ctl := { t.ctl with edacr := d } } with hr | hr | hr <;> rw [hr]
      · exact .refused .coreOff (.plain rfl rfl)
      · exact done
      · exact .ignored
    · rw [writeEdacr, if_neg h]
      simpa only [effect, if_neg h] using done
  · exact outcome_of_writeReserved (i := .wrEdacr d ad) rfl

theorem outcome_of_rdEditctrl (ad : AddrDesc) (s : State) :
    Outcome (.rdEditctrl ad) s
      (if s.cfg.has.editctrl then readBy (ladderImpdefRW s ad .editctrl) .coreOff ad s fun t => t.okRead (editctrlValue t)
      else readReserved ad s) := by
  split
  · exact outcome_of_readBy (i := .rdEditctrl ad) (.plain rfl rfl) _ editctrlValue
  · exact outcome_of_readReserved (i := .rdEditctrl ad) rfl

theorem outcome_of_wrEditctrl (d : Word) (ad : AddrDesc) (s : State) :
    Outcome (.wrEditctrl d ad) s
      (if s.cfg.has.editctrl then
        writeBy (ladderImpdefRW s ad .editctrl) .coreOff ad s fun t =>
          { t with ctl := { t.ctl with editctrl := writeStored t.cfg.opt.res0Storage 1 (~~~1) t.ctl.editctrl d } }
      else writeReserved ad s) := by
  split
  · rcases writeBy_cases (ladderImpdefRW s ad .editctrl) .coreOff ad s
      fun t => { t with ctl := { t.ctl with editctrl := writeStored t.cfg.opt.res0Storage 1 (~~~1) t.ctl.editctrl d } }
      with hr | hr | hr <;> rw [hr]
    · exact .refused .coreOff (.plain rfl rfl)
    · exact .stored (.inr rfl)
    · exact .ignored
  · exact outcome_of_writeReserved (i := .wrEditctrl d ad) rfl

/-! ## Every transaction -/

/-- What a transaction can do: it goes on, with one of the outcomes. -/
theorem exec_outcome (i : Instr) (s : State) : ∃ t, exec i s = .next t ∧ Outcome i s t := by
  cases i
  case rdEdesr | rdEdecr | rdEdwarLo | rdEdwarHi | rdEdscr | rdEdeccr | rdEdprcr | rdDbgclaimset | rdDbgclaimclr |
      rdEddevaff0 | rdEddevaff1 | rdEdlsr | rdDbgauthstatus | rdEddevid2 | rdEddevid1 | rdEddevid =>
    exact ⟨_, rfl, outcome_of_readValue (.plain rfl rfl) _⟩
  case wrEdwarLo | wrEdwarHi | wrEdprsr | wrEddevaff0 | wrEddevaff1 | wrEdlsr | wrDbgauthstatus | wrEddevid2 | wrEddevid1 |
      wrEddevid =>
    exact ⟨_, rfl, outcome_of_writeReadOnly (.plain rfl rfl)⟩
  case wrEdesr | wrEdecr | wrDbgdtrrx | wrEdscr | wrEdeccr | wrEdprcr | wrDbgclaimset | wrDbgclaimclr =>
    exact ⟨_, rfl, outcome_of_writeReg (.plain rfl rfl) (.inl rfl) rfl⟩
  case wrEditr | wrEdrcr => exact ⟨_, rfl, outcome_of_writeReg (.plain rfl rfl) (.inr rfl) rfl⟩
  case rdEditr | rdEdrcr => exact ⟨_, rfl, outcome_of_readWriteOnly (.plain rfl rfl) (.inl rfl) _⟩
  case wrDbgdtrtx => exact ⟨_, rfl, outcome_of_writeReg (.guarded rfl rfl) (.inl rfl) rfl⟩
  case rdOslar => exact ⟨_, rfl, outcome_of_readWriteOnly ⟨rfl, fun _ => rfl⟩ (.inl rfl) _⟩
  case wrOslar => exact ⟨_, rfl, outcome_of_writeReg ⟨rfl, fun _ => rfl⟩ (.inr rfl) rfl⟩
  case rdDbgdtrrx ad => exact ⟨_, rfl, outcome_of_readReg (.plain rfl rfl) _ (outcome_of_rdDbgdtrrx ad s)⟩
  case rdDbgdtrtx ad => exact ⟨_, rfl, outcome_of_readReg (.guarded rfl rfl) _ (outcome_of_rdDbgdtrtx ad s)⟩
  case rdEdprsr ad => exact ⟨_, rfl, outcome_of_readReg (.plain rfl rfl) _ (outcome_of_rdEdprsr ad s)⟩
  case rdEdpcsrLo ad =>
    refine ⟨_, rfl, ?_⟩
    split
    · exact outcome_of_readReg (i := .rdEdpcsrLo ad) (.plain rfl rfl) _ (.sideEffect _ (.inr rfl))
    · exact outcome_of_absentRead (i := .rdEdpcsrLo ad) (.plain rfl rfl) _
  case rdEdscr2 ad =>
    refine ⟨_, rfl, ?_⟩
    split
    · exact outcome_of_readValue (i := .rdEdscr2 ad) (.plain rfl rfl) _
    · exact outcome_of_absentRead (i := .rdEdscr2 ad) (.plain rfl rfl) _
  case wrEdscr2 d ad =>
    refine ⟨_, rfl, ?_⟩
    split
    · exact outcome_of_writeReg_passing (i := .wrEdscr2 d ad) (.plain rfl rfl) rfl rfl
    · exact outcome_of_absentWrite (i := .wrEdscr2 d ad) (.plain rfl rfl) _
  case rdEdlar ad =>
    refine ⟨_, rfl, ?_⟩
    split
    · exact outcome_of_readWriteOnly (i := .rdEdlar ad) (.plain rfl rfl) (.inr rfl) _
    · exact outcome_of_readValue (i := .rdEdlar ad) (.plain rfl rfl) _
  case wrEdlar => exact ⟨_, rfl, outcome_of_writeReg_passing (.plain rfl rfl) rfl rfl⟩
  case rdEdhsrLo | rdEdhsrHi => exact ⟨_, rfl, outcome_of_readEdhsr rfl _⟩
  case wrEdhsrLo | wrEdhsrHi => exact ⟨_, rfl, outcome_of_writeEdhsr rfl⟩
  case rdEdacr ad => exact ⟨_, rfl, outcome_of_rdEdacr ad s⟩
  case wrEdacr d ad => exact ⟨_, rfl, outcome_of_wrEdacr d ad s⟩
  case rdEditctrl ad => exact ⟨_, rfl, outcome_of_rdEditctrl ad s⟩
  case wrEditctrl d ad => exact ⟨_, rfl, outcome_of_wrEditctrl d ad s⟩
  case rdEdpcsrHi | rdEdcidsr | rdEdvidsr => exact ⟨_, rfl, outcome_of_readSampleReg rfl _ _⟩
  case wrEdpcsrLo | wrEdpcsrHi | wrEdcidsr | wrEdvidsr => exact ⟨_, rfl, outcome_of_writeSampleReg rfl _⟩
  case rdDbgbvrLo | rdDbgbvrHi | rdDbgbcrLo => exact ⟨_, rfl, outcome_of_readBreakpoint (.guarded rfl rfl) _ _⟩
  case wrDbgbvrLo | wrDbgbvrHi | wrDbgbcrLo => exact ⟨_, rfl, outcome_of_writeBreakpoint (.guarded rfl rfl) _ rfl⟩
  case rdDbgwvrLo | rdDbgwvrHi | rdDbgwcrLo => exact ⟨_, rfl, outcome_of_readWatchpoint (.guarded rfl rfl) _ _⟩
  case wrDbgwvrLo | wrDbgwvrHi | wrDbgwcrLo => exact ⟨_, rfl, outcome_of_writeWatchpoint (.guarded rfl rfl) _ rfl⟩
  case rdDbgbcrHi n ad =>
    have hi := congrArg (s.cfg.dbg.debugv8p9 || ·) (decide_le_eq_not_hasBreakpoint s.cfg n)
    exact ⟨_, rfl, outcome_of_highWord (i := .rdDbgbcrHi n ad) rfl hi outcome_of_readReserved
      fun hc => outcome_of_readBreakpoint hc n _⟩
  case wrDbgbcrHi n d ad =>
    have hi := congrArg (s.cfg.dbg.debugv8p9 || ·) (decide_le_eq_not_hasBreakpoint s.cfg n)
    exact ⟨_, rfl, outcome_of_highWord (i := .wrDbgbcrHi n d ad) rfl hi outcome_of_writeReserved
      fun hc => outcome_of_writeBreakpoint hc n rfl⟩
  case rdDbgwcrHi n ad =>
    have hi := congrArg (s.cfg.dbg.debugv8p9 || ·) (decide_le_eq_not_hasWatchpoint s.cfg n)
    exact ⟨_, rfl, outcome_of_highWord (i := .rdDbgwcrHi n ad) rfl hi outcome_of_readReserved
      fun hc => outcome_of_readWatchpoint hc n _⟩
  case wrDbgwcrHi n d ad =>
    have hi := congrArg (s.cfg.dbg.debugv8p9 || ·) (decide_le_eq_not_hasWatchpoint s.cfg n)
    exact ⟨_, rfl, outcome_of_highWord (i := .wrDbgwcrHi n d ad) rfl hi outcome_of_writeReserved
      fun hc => outcome_of_writeWatchpoint hc n rfl⟩
  case rdMidr => exact ⟨_, rfl, outcome_of_readBy (.plain rfl rfl) _ _⟩
  case wrMidr => exact ⟨_, rfl, outcome_of_writeBy_id (.plain rfl rfl) _⟩
  case rdEdpfrLo | rdEdpfrHi | rdEddfrLo | rdEddfrHi | rdEddfr1Lo | rdEddfr1Hi | rdEddfr2Lo | rdEddfr2Hi | rdEdaa32pfrLo |
      rdEdaa32pfrHi =>
    exact ⟨_, rfl, outcome_of_readFeature rfl _ _ _ _⟩
  case wrEdpfrLo | wrEdpfrHi | wrEddfrLo | wrEddfrHi | wrEddfr1Lo | wrEddfr1Hi | wrEddfr2Lo | wrEddfr2Hi | wrEdaa32pfrLo |
      wrEdaa32pfrHi =>
    exact ⟨_, rfl, outcome_of_writeFeature rfl _ _⟩
  case rdEddevarch | rdEddevtype | rdEdpidr0 | rdEdpidr1 | rdEdpidr2 | rdEdpidr3 | rdEdpidr4 | rdEdcidr0 | rdEdcidr1 |
      rdEdcidr2 | rdEdcidr3 =>
    exact ⟨_, rfl, outcome_of_readOptionalIdent rfl _⟩
  case wrEddevarch | wrEddevtype | wrEdpidr0 | wrEdpidr1 | wrEdpidr2 | wrEdpidr3 | wrEdpidr4 | wrEdcidr0 | wrEdcidr1 |
      wrEdcidr2 | wrEdcidr3 =>
    exact ⟨_, rfl, outcome_of_writeOptionalIdent rfl⟩

theorem outcome_of_exec {i : Instr} {s t : State} (h : exec i s = .next t) : Outcome i s t := by
  obtain ⟨u, hu, outcome⟩ := exec_outcome i s
  obtain rfl : u = t := Host.Outcome.next.inj (hu.symm.trans h)
  exact outcome

/-! ## ERROR responses and the Software Lock -/

/-- What sets EDPRSR.SDAD, in the terms of the transaction. -/
theorem soleCauseIsAllow_of_clause {i : Instr} {s : State} {e : ErrorClause} (h : ClauseOf i s.cfg e) :
    e.soleCauseIsAllow s i.ad =
      (s.powered && !s.doubleLock && (isOslar i || !s.osLock) && accessChecked s.cfg i && !s.allowDebug i.ad) := by
  obtain ⟨hallow, hlock⟩ := h
  rw [ErrorClause.soleCauseIsAllow, ← hallow]
  cases hn : e.namesAllow
  · simp
  · rw [hlock hn]
    cases isOslar i <;> cases s.osLock <;> rfl

/-- Settles O8: of the outcomes only a refusal answers ERROR. -/
theorem errorsChangeOnlySdad : Obligations.ErrorsChangeOnlySdad := by
  intro i s t ht he
  cases outcome_of_exec ht with
  | refused e hc => rw [← soleCauseIsAllow_of_clause hc]; rfl
  | read v => cases he
  | ignored => cases he
  | sideEffect v h => cases he
  | stored h => cases he

/-- Settles O9: the outcomes with an effect are not admitted under the Software Lock. -/
theorem softwareLockFreezesTheBlock : Obligations.SoftwareLockFreezesTheBlock := by
  intro i s t hl hp ht
  have frozen : ¬Admitted i s := by simp [Admitted, hl, hp]
  cases outcome_of_exec ht with
  | refused e hc => exact ⟨rfl, fun h => absurd rfl h⟩
  | read v => exact ⟨rfl, fun _ => rfl⟩
  | ignored => exact ⟨rfl, fun _ => rfl⟩
  | sideEffect v h => exact absurd h frozen
  | stored h => exact absurd h frozen

/-! ## What the effects leave alone -/

/-- The PE, its halting state, STATUS, the power state, the inputs and what the PE may see late are as they were. -/
structure LeavesPe (s t : State) : Prop where
  halted : t.hal.halted = s.hal.halted
  status : t.status = s.status
  core : t.power.core = s.power.core
  inReset : t.power.inReset = s.power.inReset
  pe : t.pe = s.pe
  auth : t.auth = s.auth
  env : t.env = s.env
  cfg : t.cfg = s.cfg
  inputs : t.inputs = s.inputs
  lateControls : t.lateControls = s.lateControls

theorem LeavesPe.refl (s : State) : LeavesPe s s := ⟨rfl, rfl, rfl, rfl, rfl, rfl, rfl, rfl, rfl, rfl⟩

/-- STATUS is bits [5:0] of EDSCR. -/
theorem status_eq_of_bits {s t : State} (h : ∀ k, k < 6 → t.ctl.edscr.getLsbD k = s.ctl.edscr.getLsbD k) :
    t.status = s.status := by
  apply BitVec.eq_of_getLsbD_eq
  intro k hk
  simp [State.status, hk, h k hk]

/-- A state that differs in EDSCR above STATUS, and in nothing else that matters here. -/
theorem leavesPe_of_mapEdscr {s t : State} {f : Word → Word} (hf : ∀ w k, k < 6 → (f w).getLsbD k = w.getLsbD k)
    (ht : LeavesPe (s.mapEdscr f) t) : LeavesPe s t :=
  ⟨ht.halted, ht.status.trans (status_eq_of_bits fun k hk => hf _ k hk), ht.core, ht.inReset, ht.pe, ht.auth, ht.env, ht.cfg,
    ht.inputs, ht.lateControls⟩

theorem memoryModeEffects_leavesPe (s : State) : LeavesPe s s.memoryModeEffects := by
  obtain ⟨rx, tx, w, h, hw⟩ := memoryModeEffects_frame s
  rw [h]
  refine ⟨rfl, status_eq_of_bits fun k hk => hw k (by omega) ?_, rfl, rfl, rfl, rfl, rfl, rfl, rfl, rfl⟩
  simp; omega

theorem setBit_getLsbD_low {n k j : Nat} (w : BitVec n) (b : Bool) (hj : j < 6) (hk : 6 ≤ k) :
    (setBit w k b).getLsbD j = w.getLsbD j := by
  rw [setBit_getLsbD, if_neg (by omega)]

theorem writeRx_leavesPe (d : Word) (s : State) : LeavesPe s (writeRx d s) := by
  unfold writeRx
  split
  · exact memoryModeEffects_leavesPe s
  · split
    · exact .refl s
    · split
      · refine leavesPe_of_mapEdscr (f := edscrRxOverrun) (fun w k hk => ?_) (.refl _)
        rw [edscrRxOverrun, setBit_getLsbD_low _ _ hk (by decide), setBit_getLsbD_low _ _ hk (by decide)]
      · refine leavesPe_of_mapEdscr (f := edscrRxAccepted) (fun w k hk => ?_) ⟨rfl, rfl, rfl, rfl, rfl, rfl, rfl, rfl, rfl, rfl⟩
        rw [edscrRxAccepted, setBit_getLsbD_low _ _ hk (by decide)]

theorem readTxFlags_leavesPe (s : State) : LeavesPe s (readTxFlags s) := by
  unfold readTxFlags
  split
  · exact .refl s
  · split
    · refine leavesPe_of_mapEdscr (f := edscrTxTaken) (fun w k hk => ?_) (.refl _)
      rw [edscrTxTaken, setBit_getLsbD_low _ _ hk (by decide)]
    · refine leavesPe_of_mapEdscr (f := edscrTxUnderrun) (fun w k hk => ?_) (.refl _)
      rw [edscrTxUnderrun, setBit_getLsbD_low _ _ hk (by decide), setBit_getLsbD_low _ _ hk (by decide)]

theorem writeItr_leavesPe (d : Word) (s : State) : LeavesPe s (writeItr d s) := by
  unfold writeItr
  split
  · exact .refl s
  · split
    · exact ⟨rfl, (memoryModeEffects_leavesPe s).status, rfl, rfl, rfl, rfl, rfl, rfl, rfl, rfl⟩
    · split
      · exact .refl s
      · split
        · refine leavesPe_of_mapEdscr (f := edscrItrAccepted) (fun w k hk => ?_) ⟨rfl, rfl, rfl, rfl, rfl, rfl, rfl, rfl, rfl, rfl⟩
          rw [edscrItrAccepted, setBit_getLsbD_low _ _ hk (by decide)]
        · refine leavesPe_of_mapEdscr (f := edscrItrOverrun) (fun w k hk => ?_) (.refl _)
          rw [edscrItrOverrun, setBit_getLsbD_low _ _ hk (by decide), setBit_getLsbD_low _ _ hk (by decide)]

/-- EDSCR has no writable and no reserved position in STATUS. -/
theorem writeEdscrFields_leavesPe (d : Word) (s : State) : LeavesPe s (writeEdscrFields d s) := by
  refine ⟨rfl, status_eq_of_bits fun k hk => ?_, rfl, rfl, rfl, rfl, rfl, rfl, rfl, rfl⟩
  have field : (edscrWritable s.cfg).getLsbD k = false := by
    rw [edscrWritable_getLsbD _ _ (by omega)]
    simp [edscrField, show k ≠ 31 by omega, show k ≠ 23 by omega, show k ≠ 22 by omega, show k ≠ 21 by omega,
      show k ≠ 20 by omega, show k ≠ 19 by omega, show k ≠ 14 by omega]
  have reserved : (edscrReserved s.cfg).getLsbD k = false := by
    simp only [edscrReserved, BitVec.getLsbD_or, maskIf_getLsbD, maskAt_getLsbD]
    simp [show ¬31 ≤ k by omega, show ¬23 ≤ k by omega, show ¬19 ≤ k by omega, show ¬17 ≤ k by omega, show ¬15 ≤ k by omega]
  simp only [writeEdscrFields, State.mapEdscr_ctl, writeStored, merge_getLsbD]
  split <;> simp_all

theorem writeEdrcrActions_leavesPe (d : Word) (s : State) : LeavesPe s (writeEdrcrActions d s) := by
  refine ⟨rfl, status_eq_of_bits fun k hk => ?_, rfl, rfl, rfl, rfl, rfl, rfl, rfl, rfl⟩
  have pipe (w : Word) : (edscrClearPipeAdv w).getLsbD k = w.getLsbD k := setBit_getLsbD_low _ _ hk (by decide)
  have errors (b : Bool) (w : Word) : (edscrClearErrors b w).getLsbD k = w.getLsbD k := by
    cases b <;> simp [edscrClearErrors, setBit_getLsbD_low _ _ hk]
  simp only [writeEdrcrActions]
  split <;> split <;> simp only [pipe, errors]

/-- No effect of a transaction halts or restarts the PE, or changes the PE, its power state or the inputs. -/
theorem effect_leavesPe (i : Instr) (s : State) : LeavesPe s (effect i s) := by
  cases i
  case rdDbgdtrrx => exact memoryModeEffects_leavesPe s
  case wrDbgdtrrx d ad => exact writeRx_leavesPe d s
  case rdDbgdtrtx => simp only [effect]; split <;> [exact memoryModeEffects_leavesPe s; exact readTxFlags_leavesPe s]
  case wrDbgdtrtx =>
    simp only [effect]
    split
    · exact memoryModeEffects_leavesPe s
    · exact ⟨rfl, rfl, rfl, rfl, rfl, rfl, rfl, rfl, rfl, rfl⟩
  case wrEditr d ad => exact writeItr_leavesPe d s
  case wrEdscr d ad => exact writeEdscrFields_leavesPe d s
  case wrEdrcr d ad => exact writeEdrcrActions_leavesPe d s
  case wrEdlar => simp only [effect]; split <;> exact ⟨rfl, rfl, rfl, rfl, rfl, rfl, rfl, rfl, rfl, rfl⟩
  all_goals exact ⟨rfl, rfl, rfl, rfl, rfl, rfl, rfl, rfl, rfl, rfl⟩

theorem exec_leavesPe {i : Instr} {s t : State} (h : exec i s = .next t) : LeavesPe s t := by
  have done (f : State) (hf : LeavesPe s f) : LeavesPe s f.okWrite ∧ ∀ v, LeavesPe s (f.okRead v) :=
    ⟨⟨hf.halted, hf.status, hf.core, hf.inReset, hf.pe, hf.auth, hf.env, hf.cfg, hf.inputs, hf.lateControls⟩,
      fun _ => ⟨hf.halted, hf.status, hf.core, hf.inReset, hf.pe, hf.auth, hf.env, hf.cfg, hf.inputs, hf.lateControls⟩⟩
  cases outcome_of_exec h with
  | refused e hc => exact ⟨rfl, rfl, rfl, rfl, rfl, rfl, rfl, rfl, rfl, rfl⟩
  | read v => exact (done s (.refl s)).2 v
  | ignored => exact (done s (.refl s)).1
  | sideEffect v h => exact (done _ (effect_leavesPe i s)).2 v
  | stored h => exact (done _ (effect_leavesPe i s)).1

/-- Settles O10: no outcome of a transaction reaches any of these. -/
theorem accessesLeaveThePe : Obligations.AccessesLeaveThePe := by
  intro i s t h
  obtain ⟨halted, status, core, inReset, pe, auth, env, cfg, inputs, lateControls⟩ := exec_leavesPe h
  exact ⟨halted, status, core, inReset, pe, auth, env, cfg, inputs, lateControls⟩

/-! ## The locks -/

theorem writeRx_lock (d : Word) (s : State) : (writeRx d s).lock = s.lock := by
  unfold writeRx
  repeat' split
  all_goals rfl

theorem readTxFlags_lock (s : State) : (readTxFlags s).lock = s.lock := by
  unfold readTxFlags
  repeat' split
  all_goals rfl

theorem writeItr_lock (d : Word) (s : State) : (writeItr d s).lock = s.lock := by
  unfold writeItr
  repeat' split
  all_goals rfl

/-- The effects that move a lock. -/
theorem effect_lock (i : Instr) (s : State) :
    (effect i s).lock = s.lock ∨
      (∃ d ad, i = .wrEdlar d ad ∧ ad.memoryMapped = true ∧ (effect i s).lock.oslk = s.lock.oslk) ∨
      (∃ d ad, i = .wrOslar d ad ∧ (effect i s).lock.slk = s.lock.slk) := by
  cases i
  case wrEdlar d ad =>
    simp only [effect]
    split
    · rename_i h
      exact .inr (.inl ⟨d, ad, rfl, (Bool.and_eq_true _ _ ▸ h).2, rfl⟩)
    · exact .inl rfl
  case wrOslar d ad => exact .inr (.inr ⟨d, ad, rfl, rfl⟩)
  case wrDbgdtrrx d ad => exact .inl (writeRx_lock d s)
  case rdDbgdtrtx => simp only [effect]; split <;> [exact .inl rfl; exact .inl (readTxFlags_lock s)]
  case wrDbgdtrtx => simp only [effect]; split <;> exact .inl rfl
  case wrEditr d ad => exact .inl (writeItr_lock d s)
  all_goals exact .inl rfl

/-- Settles O11: the effects that move a lock are those of the two registers. -/
theorem locksMoveOnlyThroughTheirRegisters : Obligations.LocksMoveOnlyThroughTheirRegisters := by
  intro i s t h
  have lock : t.lock = s.lock ∨ t.lock = (effect i s).lock := by
    cases outcome_of_exec h with
    | refused e hc => exact .inl rfl
    | read v => exact .inl rfl
    | ignored => exact .inl rfl
    | sideEffect v h => exact .inr rfl
    | stored h => exact .inr rfl
  rcases lock with lock | lock <;> rw [lock]
  · exact ⟨fun hn => absurd rfl hn, fun hn => absurd rfl hn⟩
  · rcases effect_lock i s with same | ⟨d, ad, hi, hm, same⟩ | ⟨d, ad, hi, same⟩
    · rw [same]; exact ⟨fun hn => absurd rfl hn, fun hn => absurd rfl hn⟩
    · exact ⟨fun _ => ⟨d, ad, hi, hm⟩, fun hn => absurd same hn⟩
    · exact ⟨fun hn => absurd same hn, fun _ => ⟨d, ad, hi⟩⟩

end Sys2Proof.Proofs.Transaction
end

section
/-!
What the steps of the agents do, where Laws/Agent.lean does not say it: the ITR word, entry to Debug state, System register
writes, resets; each step of `agentStep` as the outcomes it has.
-/

namespace Sys2Proof.Proofs.AgentRules

open Sys2Proof.Machine Sys2Proof.Safety Sys2Proof.Proofs.Transaction

/-! ## Entry to Debug state -/

/-- EDSCR after entry to Debug state, bit by bit: STATUS, ITO 0, MA 0, ITE 1, every other bit as it was. -/
theorem edscrEnterDebug_getLsbD (w : Word) (st : BitVec 6) (k : Nat) :
    (edscrEnterDebug w st).getLsbD k =
      if k = 24 then true else if k = 20 then false else if k = 28 then false
      else if k < 6 then st.getLsbD k else w.getLsbD k := by
  simp only [edscrEnterDebug, setBit_getLsbD, edscrWithStatus_getLsbD]
  simp

theorem edscrWithStatus_status (w : Word) (st : BitVec 6) : (edscrWithStatus w st).extractLsb' 0 6 = st := by
  apply BitVec.eq_of_getLsbD_eq
  intro k hk
  simp [-BitVec.getLsbD_eq_getElem, edscrWithStatus_getLsbD, hk]

theorem edscrEnterDebug_status (w : Word) (st : BitVec 6) : (edscrEnterDebug w st).extractLsb' 0 6 = st := by
  apply BitVec.eq_of_getLsbD_eq
  intro k hk
  have : k ≠ 24 ∧ k ≠ 20 ∧ k ≠ 28 := by omega
  simp [-BitVec.getLsbD_eq_getElem, edscrEnterDebug_getLsbD, hk, this]

theorem enterDebugState_status (s : State) (r : HaltReason) : (s.enterDebugState r).status = r.status :=
  edscrEnterDebug_status s.ctl.edscr r.status

theorem exitDebugState_status (s : State) : s.exitDebugState.status = statusNonDebug :=
  edscrWithStatus_status s.ctl.edscr statusNonDebug

/-- The code of every Halting debug event is one that records a reason for halting (47 R740). -/
theorem status_mem_haltCodes (r : HaltReason) : r.status ∈ haltCodes := by
  cases r with
  | haltingStep k => cases k <;> decide
  | _ => simp [HaltReason.status, statusWatchpoint, haltCodes]

/-- EDESR after entry to Debug state, bit by bit: the pending bit of the event is cleared where it is a field. -/
theorem enterDebugState_edesr_getLsbD (s : State) (r : HaltReason) (k : Nat) (hk : k < 32) :
    (s.enterDebugState r).ctl.edesr.getLsbD k =
      (s.ctl.edesr.getLsbD k && !(edesrField s.cfg k && decide (r.pending.map PendingEvent.bit = some k))) := by
  have edesr : (s.enterDebugState r).ctl.edesr =
      match r.pending with
      | some f => if (edesrFields s.cfg).getLsbD f.bit then edesrSet s.ctl.edesr f false else s.ctl.edesr
      | none => s.ctl.edesr := rfl
  rw [edesr]
  cases r.pending with
  | none => simp
  | some f =>
    have bound : f.bit < 32 := by cases f <;> decide
    simp only [edesrFields_getLsbD _ _ bound, Option.map_some, Option.some.injEq]
    split
    · rename_i hf
      rw [edesrSet_getLsbD]
      by_cases h : k = f.bit
      · subst h; simp [hf]
      · simp [h, Ne.symm h]
    · rename_i hf
      by_cases h : f.bit = k
      · subst h; simp [hf]
      · simp [h]

/-! ## The ITR word -/

/-- EDSCR after the PE has executed the ITR word. -/
def edscrAfterItr (e : ItrEffect) (w : Word) : Word :=
  let w := if e.takesRx then setBit w 30 false else w
  let w := if e.putsTx.isSome then setBit w 29 true else w
  let w := if e.exception then setBit w 6 true else w
  setBit w 24 true

theorem edscrAfterItr_getLsbD (e : ItrEffect) (w : Word) (k : Nat) :
    (edscrAfterItr e w).getLsbD k =
      if k = 24 then true
      else if k = 6 then w.getLsbD 6 || e.exception
      else if k = 29 then w.getLsbD 29 || e.putsTx.isSome
      else if k = 30 then w.getLsbD 30 && !e.takesRx
      else w.getLsbD k := by
  simp only [edscrAfterItr]
  by_cases h24 : k = 24 <;> by_cases h6 : k = 6 <;> by_cases h29 : k = 29 <;> by_cases h30 : k = 30 <;>
    cases e.takesRx <;> cases e.putsTx.isSome <;> cases e.exception <;>
    simp_all [-BitVec.getLsbD_eq_getElem, setBit_getLsbD]

/-- The state after the PE has executed the ITR word with effect `e`. -/
def itrExecuted (s : State) (e : ItrEffect) : State :=
  { s with
    pe := e.pe
    earlierContexts := if e.pe.context = s.pe.context then s.earlierContexts else s.pe.context :: s.earlierContexts
    env := s.env.withPeOwned e.env
    smp := { s.smp with fresh := s.smp.fresh && !e.env.pcSampleProhibited }
    dcc := { s.dcc with dtrtx := e.putsTx.getD s.dcc.dtrtx }
    ctl := { s.ctl with edscr := edscrAfterItr e s.ctl.edscr } }

/-- The condition under which a word waits in ITR and `e` is an effect of it. -/
structure ItrWaits (s : State) (e : ItrEffect) : Prop where
  active : s.peActive = true
  halted : s.hal.halted = true
  normal : s.seen.ma = false
  waits : s.ite = false
  word : s.dcc.memoryOp = false
  instruction : e.instruction = s.itrInstruction
  legal : LegalView s.cfg e.pe

theorem stepTakeItr_of_waits {s : State} {e : ItrEffect} (h : ItrWaits s e) : s.stepTakeItr e = itrExecuted s e := by
  have guard : (s.peActive && s.hal.halted && !s.seen.ma && !s.ite && !s.dcc.memoryOp &&
      e.instruction = s.itrInstruction && e.pe.isLegal s.cfg) = true := by
    simp [h.active, h.halted, h.normal, h.waits, h.word, h.instruction, (isLegal_iff s.cfg e.pe).2 h.legal]
  rw [State.stepTakeItr, if_pos guard]
  unfold itrExecuted edscrAfterItr
  cases e.takesRx <;> cases e.putsTx <;> rfl

/-- Executing the ITR word: the PE does it where a word waits, or nothing happens. -/
theorem stepTakeItr_cases (s : State) (e : ItrEffect) :
    (ItrWaits s e ∧ s.stepTakeItr e = itrExecuted s e) ∨ (¬ItrWaits s e ∧ s.stepTakeItr e = s) := by
  by_cases h : ItrWaits s e
  · exact .inl ⟨h, stepTakeItr_of_waits h⟩
  · refine .inr ⟨h, if_neg fun guard => h ?_⟩
    simp only [Bool.and_eq_true, Bool.not_eq_true', decide_eq_true_eq, isLegal_iff, and_assoc] at guard
    obtain ⟨active, halted, normal, waits, word, instruction, legal⟩ := guard
    exact ⟨active, halted, normal, waits, word, instruction, legal⟩

/-! ## System register writes -/

theorem sysRegWritten_edscr (s : State) (r : SysReg) (v : Dword) : (s.sysRegWritten r v).ctl.edscr = s.ctl.edscr := by
  cases r <;> simp only [State.sysRegWritten]
  case dbgbcr n => split <;> rfl
  case dbgwcr n => split <;> rfl
  all_goals rfl

/-- A write by PE software that TDA does not trap stores, and the PE sees at once what it wrote. -/
theorem stepSysWrite_of_untrapped {s : State} {r : SysReg} (he : Executes s) (hr : r.reachable s.cfg s.usingAA64 = true)
    (ht : r.trappedByTDA = false ∨ ¬Trapped s) (v : Dword) :
    s.stepSysWrite r v = (s.sysRegWritten r v).settle r.written := by
  have guard : (s.executing && r.reachable s.cfg s.usingAA64) = true := by rw [(executing_iff s).2 he, hr]; rfl
  rw [State.stepSysWrite, if_pos guard, if_neg]
  intro trap
  simp only [Bool.and_eq_true, canHalt_iff, State.eventEnabled, State.tda, State.osLock, Bool.not_eq_true'] at trap
  obtain ⟨⟨trapped, -, -, halted, allowed, -⟩, tda, oslk⟩ := trap
  rcases ht with ht | ht
  · rw [ht] at trapped; cases trapped
  · exact ht ⟨halted, allowed, tda, oslk⟩

/-- A write by PE software that TDA traps is a Software Access debug event in its place. -/
theorem stepSysWrite_of_trapped {s : State} {r : SysReg} (he : Executes s) (hr : r.reachable s.cfg s.usingAA64 = true)
    (htda : r.trappedByTDA = true) (ht : Trapped s) (v : Dword) :
    s.stepSysWrite r v = s.stepEnterDebug .debugRegisterAccess := by
  obtain ⟨halted, allowed, tda, oslk⟩ := ht
  have guard : (s.executing && r.reachable s.cfg s.usingAA64) = true := by rw [(executing_iff s).2 he, hr]; rfl
  have can : s.canHalt .debugRegisterAccess = true := (canHalt_iff s _).2 ⟨he.1, he.2.1, halted, allowed, .inl he.2.2⟩
  have enabled : s.seen.eventEnabled .debugRegisterAccess = true := by
    simp only [State.eventEnabled, State.tda, State.osLock, tda, oslk]; rfl
  simp only [State.stepSysWrite, guard, State.stepEnterDebug, htda, can, enabled, Bool.and_self, if_true]

/-- What is kept of the controls, after a write by PE software. -/
theorem settles_sysRegWritten (s : State) (r : SysReg) (v : Dword) :
    Settles s ((s.sysRegWritten r v).settle r.written) r.written := by
  have kept : (s.sysRegWritten r v).lateControls = s.lateControls := by
    obtain ⟨regs, dcc, ctl, lock, h⟩ := sysRegWritten_frame s r v
    rw [h]
  have settles := settles_settle (s.sysRegWritten r v) r.written
  rwa [Settles, kept] at settles

/-- A write by PE software of a register whose accesses TDA may trap. -/
theorem trappableWrite_of {s : State} {r : SysReg} {v : Dword} {mask : ControlReg → Dword} {P : State → State → Prop}
    (htda : r.trappedByTDA = true) (hmask : r.written = mask)
    (hP : ∀ late, P { s with lateControls := late } { s.sysRegWritten r v with lateControls := late }) :
    TrappableWrite r v s (Settling s mask P) := by
  intro he hr
  refine ⟨fun ht => stepSysWrite_of_trapped he hr htda ht v, fun ht => ?_⟩
  have stored : agentStep (.sysWrite r v) s = (s.sysRegWritten r v).settle r.written :=
    stepSysWrite_of_untrapped he hr (.inr ht) v
  rw [stored, ← hmask]
  exact ⟨settles_sysRegWritten s r v, hP _⟩

/-! ## Resets -/

theorem warmEntries_halted (s : State) : s.warmEntries.hal.halted = s.hal.halted := rfl

theorem warmEntries_status (s : State) : s.warmEntries.status = s.status :=
  status_eq_of_bits fun _ hk => setBit_getLsbD_low _ _ hk (by decide)

theorem coldReset_halted (s : State) : s.coldReset.hal.halted = false := rfl

theorem coldReset_status (s : State) : s.coldReset.status = statusNonDebug :=
  (warmEntries_status s.coldEntries).trans (edscrWithStatus_status _ _)

end Sys2Proof.Proofs.AgentRules
end

section
/-!
What every step keeps: EDSCR.STATUS in agreement with the halting state (`StepKeepsStatusCoherent`), the reserved bits of the
control registers 0 (`StepKeepsReservedClear`), the parameters and the possible inputs (`StepKeepsConfiguration`); how the PE
enters Debug state (`DebugStateIsEnteredOnlyByHalting`); and the step itself (`StepRunsDecodedAccess`,
`StepTakesAgentSteps`, `StepStopsWhenVoid`, `ResetIsSafe`).
-/

namespace Sys2Proof.Proofs.Invariant

open Sys2Proof.Machine Sys2Proof.Safety Sys2Proof.Proofs.Transaction Sys2Proof.Proofs.AgentRules

/-! ## The step -/

/-- Settles O5: the step fetches the transaction and runs it. -/
theorem stepRunsDecodedAccess : Obligations.StepRunsDecodedAccess := by
  intro s bytes rest i hv hi hd hw
  have fetched : fetch s.cfg bytes = .ok i := (fetch_eq_ok_iff s.cfg bytes i).2 ⟨hd, hw⟩
  have control (r : ControlReg) : (s.consume rest).control r = s.control r := by cases r <;> rfl
  have ran : step s = (s.consume rest).afterAccess i (exec i (s.consume rest)) := by
    simp only [step, hv, hi, fetched]
  rw [ran]
  show _ = match exec i (s.consume rest) with | .next t => _ | .fault f => _ | .refused r => _
  cases exec i (s.consume rest) with
  | next t =>
    cases written : writtenControl i with
    | none => simp only [State.afterAccess, State.remember, written]
    | some r => simp only [State.afterAccess, State.remember, written, control]
  | fault f => rfl
  | refused r => rfl

/-- Settles O6: by the branches of the step. -/
theorem stepTakesAgentSteps : Obligations.StepTakesAgentSteps := by
  intro s hv
  refine ⟨fun a rest hi => ?agent, fun hi => ?idle⟩
  case agent => simp only [step, hv, hi]; rfl
  case idle => simp only [step, hv, hi]

/-- Settles O7: the two conditions that void the rules, in their order. -/
theorem stepStopsWhenVoid : Obligations.StepStopsWhenVoid := by
  intro s
  refine ⟨fun hp hb => ?integration, fun hi hp hb => ?auxiliary⟩
  case integration =>
    have mode : s.inIntegrationMode = true := by rw [State.inIntegrationMode, hp, hb]; rfl
    simp only [step, State.voided, mode, if_true]
  case auxiliary =>
    have mode : s.inIntegrationMode = false := by
      rw [State.inIntegrationMode]
      rcases hi with h | h <;> simp only [h, Bool.false_and, Bool.and_false]
    have changed : s.auxiliaryChanged = true := by simp [State.auxiliaryChanged, hp, hb]
    simp only [step, State.voided, mode, changed, Bool.false_eq_true, if_false, if_true]

/-! ## STATUS and the halting state -/

/-- Halted and STATUS are as they were. -/
abbrev KeepsHalting (s t : State) : Prop := t.hal.halted = s.hal.halted ∧ t.status = s.status

theorem statusCoherent_of_keeps {s t : State} (h : KeepsHalting s t) (hs : StatusCoherent s) : StatusCoherent t := by
  unfold StatusCoherent
  rw [h.1, h.2]
  exact hs

theorem statusCoherent_of_nonDebug {t : State} (hh : t.hal.halted = false) (hst : t.status = statusNonDebug) :
    StatusCoherent t := by
  simp only [StatusCoherent, hh, hst]; decide

theorem statusCoherent_enterDebugState (s : State) (r : HaltReason) : StatusCoherent (s.enterDebugState r) := by
  unfold StatusCoherent
  rw [if_pos (s.enterDebugState_halted r), enterDebugState_status]
  exact .inl (status_mem_haltCodes r)

theorem statusCoherent_exitDebugState (s : State) : StatusCoherent s.exitDebugState :=
  statusCoherent_of_nonDebug s.exitDebugState_halted (exitDebugState_status s)

theorem statusCoherent_coldReset (s : State) : StatusCoherent s.coldReset :=
  statusCoherent_of_nonDebug (coldReset_halted s) (coldReset_status s)

/-- Writing one bit of EDSCR above STATUS. -/
theorem keepsHalting_setBit (s : State) {k : Nat} (b : Bool) (hk : 6 ≤ k) :
    KeepsHalting s (s.mapEdscr fun w => setBit w k b) :=
  ⟨rfl, status_eq_of_bits fun _ hj => setBit_getLsbD_low _ _ hj hk⟩

theorem keepsHalting_itrExecuted (s : State) (e : ItrEffect) : KeepsHalting s (itrExecuted s e) := by
  refine ⟨rfl, status_eq_of_bits fun k hk => ?_⟩
  show (edscrAfterItr e s.ctl.edscr).getLsbD k = _
  have : k ≠ 24 ∧ k ≠ 6 ∧ k ≠ 29 ∧ k ≠ 30 := by omega
  simp only [edscrAfterItr_getLsbD, this, if_false]

theorem keepsHalting_writeMdscr (s : State) (v : Word) (ehbwe tta : Bool) :
    KeepsHalting s (s.stepWriteMdscr v ehbwe tta) := by
  unfold State.stepWriteMdscr
  split
  · refine ⟨rfl, status_eq_of_bits fun k hk => ?_⟩
    have field : (edscrMdscr s.cfg).getLsbD k = false := by
      have : (edscrWritable s.cfg).getLsbD k = false := by
        rw [edscrWritable_getLsbD _ _ (by omega)]
        interval_cases k <;> rfl
      simp only [edscrMdscr, BitVec.getLsbD_or, BitVec.getLsbD_and, this, maskAt_getLsbD]
      interval_cases k <;> rfl
    show (merge (edscrMdscr s.cfg) s.ctl.edscr v).getLsbD k = _
    rw [merge_getLsbD, field]
    rfl
  · exact ⟨rfl, rfl⟩

theorem statusCoherent_warmReset {s : State} (hs : StatusCoherent s) : StatusCoherent s.warmReset := by
  refine statusCoherent_of_keeps (s := if s.hal.halted then s.exitDebugState else s)
    ⟨warmEntries_halted _, warmEntries_status _⟩ ?_
  by_cases h : s.hal.halted = true
  · rw [if_pos h]; exact statusCoherent_exitDebugState s
  · rw [if_neg h]; exact hs

/-- Every step of an agent keeps the agreement: it enters or leaves Debug state, asks for a restart, or keeps both. -/
theorem statusCoherent_agentStep (a : AgentStep) {s : State} (hs : StatusCoherent s) : StatusCoherent (agentStep a s) := by
  have same {t : State} (h : KeepsHalting s t) : StatusCoherent t := statusCoherent_of_keeps h hs
  cases a <;> simp only [agentStep]
  case enterDebug r =>
    rcases stepEnterDebug_cases s r with ⟨-, -, h⟩ | h <;> rw [h]
    · exact statusCoherent_enterDebugState s r
    · exact hs
  case eventPending r =>
    rcases stepEventPending_cases s r with ⟨f, -, -, -, -, h⟩ | h <;> rw [h]
    · exact same ⟨rfl, rfl⟩
    · exact hs
  case takePending f k =>
    rcases stepTakePending_cases s f k with ⟨-, -, h⟩ | h <;> rw [h]
    · exact statusCoherent_enterDebugState s _
    · exact hs
  case restartRequest =>
    unfold State.stepRestartRequest
    split
    · rename_i h
      have halted : (s.mapEdscr fun w => edscrWithStatus w statusRestarting).hal.halted = true := (Bool.and_eq_true _ _ ▸ h).2
      rw [StatusCoherent, if_pos halted]
      exact .inr (edscrWithStatus_status _ _)
    · exact hs
  case exitDebug =>
    rcases stepExitDebug_cases s with ⟨-, -, -, h⟩ | h <;> rw [h]
    · exact statusCoherent_exitDebugState _
    · exact hs
  case takeItr e =>
    rcases stepTakeItr_cases s e with ⟨-, h⟩ | ⟨-, h⟩ <;> rw [h]
    · exact same (keepsHalting_itrExecuted s e)
    · exact hs
  case memoryAccess p e =>
    rcases stepMemoryAccess_cases s p e with ⟨-, -, -, -, h⟩ | h <;> rw [h]
    · exact same ⟨rfl, (memoryModeEffects_leavesPe (s.withPeEffect p e)).status⟩
    · exact hs
  case takeRx =>
    unfold State.stepTakeRx
    split
    · exact same (keepsHalting_setBit s false (by decide))
    · exact hs
  case putTx v =>
    unfold State.stepPutTx
    split
    · exact same (keepsHalting_setBit s true (by decide))
    · exact hs
  case branchRetired addr => unfold State.stepBranchRetired; split <;> exact hs
  case pipeAdvance =>
    unfold State.stepPipeAdvance
    split
    · exact same (keepsHalting_setBit s true (by decide))
    · exact hs
  case writeMdscr v ehbwe tta => exact same (keepsHalting_writeMdscr s v ehbwe tta)
  case contextSync => unfold State.stepContextSync; split <;> exact hs
  case sysWrite r v =>
    rcases stepSysWrite_cases s r v with ⟨-, -, -, h⟩ | ⟨-, -, -, h⟩ | h <;> rw [h]
    · exact statusCoherent_enterDebugState s _
    · refine same ⟨?_, status_eq_of_bits fun k _ => by rw [State.settle_ctl, sysRegWritten_edscr]⟩
      obtain ⟨regs, dcc, ctl, lock, hf⟩ := sysRegWritten_frame s r v
      rw [State.settle_hal, hf]
    · exact hs
  case coldReset => exact statusCoherent_coldReset s
  case warmReset => exact statusCoherent_warmReset hs
  case externalDebugReset => unfold State.externalDebugReset; dsimp only; split <;> exact hs
  case leaveReset => unfold State.leaveReset; split <;> exact hs
  case powerDownCore => unfold State.powerDownCore; split <;> exact hs
  case powerUpCore => unfold State.powerUpCore; split <;> [exact statusCoherent_coldReset _; exact hs]
  case enterRetention => unfold State.enterRetention; split <;> exact hs
  case leaveRetention => unfold State.leaveRetention; split <;> exact hs
  case setAuth a => unfold State.withAuth; split <;> exact hs
  case setEnv e => exact hs
  case setPe p => unfold State.stepSetPe; split <;> exact hs
  case takeInterrupt p => unfold State.stepTakeInterrupt; split <;> exact hs
  case setExtRequest b => exact hs
  case extTraceAccessFailed ad => unfold State.extTraceAccessFailed; split <;> exact hs
  case extPmuAccessFailed ad => unfold State.extPmuAccessFailed; split <;> exact hs

/-- Settles O12: a transaction keeps Halted and STATUS (O10), and every step of an agent keeps their agreement. -/
theorem stepKeepsStatusCoherent : Obligations.StepKeepsStatusCoherent := by
  intro s t hs ht
  rcases (step_cases ht).2 with ⟨-, rfl⟩ | ⟨a, rest, -, rfl⟩ | ⟨bytes, rest, i, -, -, u, hu, rfl⟩
  · exact hs
  · exact statusCoherent_agentStep a (s := s.consume rest) hs
  · have kept := exec_leavesPe hu
    exact statusCoherent_of_keeps ⟨kept.halted, kept.status⟩ hs

/-! ## The reserved bits of the control registers -/

/-- No bit outside the fields of a register is 1. -/
def Within (field : Nat → Bool) (w : Word) : Prop := ∀ k, k < 32 → field k = false → w.getLsbD k = false

/-- EDITCTRL has one field, IME. -/
def editctrlField (k : Nat) : Bool := decide (k = 0)

/-- No bit outside the fields of EDECCR, EDECR, EDESR, EDSCR2, EDPRCR and EDITCTRL is 1. -/
structure CtlClear (c : Config) (r : ControlRegs) : Prop where
  edeccr : Within (edeccrField c) r.edeccr
  edecr : Within (edecrField c) r.edecr
  edesr : Within (edesrField c) r.edesr
  edscr2 : Within (edscr2Field c) r.edscr2
  edprcr : Within (edprcrField c) r.edprcr
  editctrl : Within editctrlField r.editctrl

theorem reservedClear_iff (s : State) : ReservedClear s ↔ (PlainStorage s → CtlClear s.cfg s.ctl) := by
  refine ⟨fun h hp => ?_, fun h hp k hk => ?_⟩
  · have bits := h hp
    exact ⟨fun k hk => (bits k hk).1, fun k hk => (bits k hk).2.1, fun k hk => (bits k hk).2.2.1,
      fun k hk => (bits k hk).2.2.2.1, fun k hk => (bits k hk).2.2.2.2.1,
      fun k hk hf => (bits k hk).2.2.2.2.2 (by simpa [editctrlField] using hf)⟩
  · obtain ⟨edeccr, edecr, edesr, edscr2, edprcr, editctrl⟩ := h hp
    exact ⟨edeccr k hk, edecr k hk, edesr k hk, edscr2 k hk, edprcr k hk,
      fun h0 => editctrl k hk (by simp [editctrlField, h0])⟩

section Words

variable {field : Nat → Bool} {w : Word}

/-- A word of which every bit that is no field was there before, or is 0. -/
theorem Within.of_le (h : Within field w) {v : Word}
    (hv : ∀ k, k < 32 → field k = false → v.getLsbD k = true → w.getLsbD k = true) : Within field v := by
  intro k hk hf
  cases hb : v.getLsbD k
  · rfl
  · exact absurd (hv k hk hf hb) (by rw [h k hk hf]; exact Bool.false_ne_true)

theorem Within.and (h : Within field w) (m : Word) : Within field (w &&& m) :=
  h.of_le fun k _ _ hb => by simp only [BitVec.getLsbD_and, Bool.and_eq_true] at hb; exact hb.1

theorem Within.setBit (h : Within field w) {k : Nat} {b : Bool} (hk : field k = true ∨ b = false) :
    Within field (setBit w k b) := by
  refine h.of_le fun j _ hf hb => ?_
  rw [setBit_getLsbD] at hb
  split at hb
  · rename_i hj
    subst hj
    rcases hk with hk | hk
    · rw [hk] at hf; cases hf
    · rw [hk] at hb; cases hb
  · exact hb

/-- A merge under a mask of fields. -/
theorem Within.merge (h : Within field w) {mask d : Word}
    (hm : ∀ k, k < 32 → mask.getLsbD k = true → field k = true) : Within field (merge mask w d) := by
  refine h.of_le fun k hk hf hb => ?_
  rw [merge_getLsbD] at hb
  split at hb
  · rename_i hmask; rw [hm k hk hmask] at hf; cases hf
  · exact hb

/-- A write of a register whose RES0 positions hold nothing. -/
theorem Within.writeStored (h : Within field w) {fields : Word} (hm : ∀ k, k < 32 → fields.getLsbD k = field k)
    (reserved d : Word) : Within field (writeStored false fields reserved w d) := by
  show Within field (Machine.merge fields w d)
  exact h.merge fun k hk hb => (hm k hk).symm.trans hb

end Words

theorem edesrField_of_pending {c : Config} {f : PendingEvent} (h : f = .ec → c.dbg.debugv8p8 = true) :
    edesrField c f.bit = true := by
  cases f with
  | ec => simp [edesrField, PendingEvent.bit, h rfl]
  | _ => simp [edesrField, PendingEvent.bit]

section Effects

variable {s : State}

theorem ctlClear_writeOsLock (b : Bool) (h : CtlClear s.cfg s.ctl) : CtlClear s.cfg (s.writeOsLock b).ctl := by
  unfold State.writeOsLock
  dsimp only
  split
  · exact { h with edesr := h.edesr.setBit (.inl rfl) }
  · exact { h with }

theorem ctlClear_writeEdeccr (d : Word) (hp : PlainStorage s) (h : CtlClear s.cfg s.ctl) :
    CtlClear s.cfg (writeEdeccrFields d s).ctl := by
  unfold writeEdeccrFields
  rw [hp]
  exact { h with edeccr := h.edeccr.writeStored (edeccrFields_getLsbD s.cfg) _ d }

theorem ctlClear_writeRx (d : Word) (h : CtlClear s.cfg s.ctl) : CtlClear s.cfg (writeRx d s).ctl := by
  unfold writeRx
  repeat' split
  all_goals exact { h with }

theorem ctlClear_readTxFlags (h : CtlClear s.cfg s.ctl) : CtlClear s.cfg (readTxFlags s).ctl := by
  unfold readTxFlags
  repeat' split
  all_goals exact { h with }

theorem ctlClear_writeItr (d : Word) (h : CtlClear s.cfg s.ctl) : CtlClear s.cfg (writeItr d s).ctl := by
  unfold writeItr
  repeat' split
  all_goals exact { h with }

/-- The bits of EDPRCR that a write stores are fields. -/
theorem edprcrField_of_stored {npdUnknown : Bool} (c : Config) (k : Nat) (_ : k < 32)
    (h : (maskIf (!c.dbg.doPD) (maskAt 3 1) ||| maskIf (!npdUnknown) (maskAt 0 1) ||| maskIf false (edprcrReserved c)).getLsbD k
      = true) : edprcrField c k = true := by
  simp only [BitVec.getLsbD_or, maskIf_getLsbD, maskAt_getLsbD, Bool.or_eq_true, Bool.and_eq_true, decide_eq_true_eq,
    Bool.not_eq_true', Bool.false_and, Bool.false_eq_true, or_false] at h
  rcases h with ⟨hd, -, h3, h3'⟩ | ⟨-, -, h0, h0'⟩
  · simp [edprcrField, hd, show k = 3 by omega]
  · simp [edprcrField, show k = 0 by omega]

/-- No effect of a transaction sets a reserved bit. -/
theorem ctlClear_effect (i : Instr) (hp : PlainStorage s) (h : CtlClear s.cfg s.ctl) :
    CtlClear s.cfg (effect i s).ctl := by
  cases i
  case wrEdesr d ad =>
    simp only [effect, writeEdesrBits, hp]
    exact { h with edesr := (h.edesr.and _).merge fun k _ hb => by simp [maskIf_getLsbD] at hb }
  case wrEdecr d ad =>
    simp only [effect, writeEdecrFields, hp]
    exact { h with edecr := h.edecr.writeStored (edecrFields_getLsbD s.cfg) _ d }
  case wrEdscr2 d ad =>
    simp only [effect, writeEdscr2Fields, hp]
    exact { h with edscr2 := h.edscr2.writeStored (edscr2Fields_getLsbD s.cfg) _ d }
  case wrEdeccr d ad => exact ctlClear_writeEdeccr d hp h
  case wrEditctrl d ad =>
    simp only [effect, hp]
    refine { h with editctrl := h.editctrl.writeStored (fun k hk => ?_) _ d }
    interval_cases k <;> rfl
  case wrEdprcr d ad =>
    simp only [effect, writeEdprcrFields, hp]
    exact { h with edprcr := h.edprcr.merge (edprcrField_of_stored s.cfg) }
  case wrOslar d ad => exact ctlClear_writeOsLock _ h
  case wrDbgdtrrx d ad => exact ctlClear_writeRx d h
  case wrEditr d ad => exact ctlClear_writeItr d h
  case rdDbgdtrtx => simp only [effect]; split <;> [exact { h with }; exact ctlClear_readTxFlags h]
  case wrDbgdtrtx => simp only [effect]; split <;> exact { h with }
  case wrEdlar => simp only [effect]; split <;> exact { h with }
  all_goals exact { h with }

end Effects

/-! ### The steps of the agents -/

section Agents

variable {s : State}

theorem ctlClear_enterDebugState (r : HaltReason) (h : CtlClear s.cfg s.ctl) :
    CtlClear s.cfg (s.enterDebugState r).ctl :=
  { h with
    edesr := h.edesr.of_le fun k hk _ hb => by
      rw [enterDebugState_edesr_getLsbD s r k hk, Bool.and_eq_true] at hb
      exact hb.1 }

/-- An Exception Catch is generated only with FEAT_Debugv8p8, where its pending bit is a field. -/
theorem generates_exceptionCatch {r : HaltReason} (hr : r.pending = some .ec) (h : s.generates r = true) :
    s.cfg.dbg.debugv8p8 = true := by
  cases r with
  | exceptionCatch el ss kind => exact (Bool.and_eq_true _ _ ▸ h).1
  | _ => cases hr

theorem ctlClear_eventPending (r : HaltReason) (h : CtlClear s.cfg s.ctl) :
    CtlClear s.cfg (s.stepEventPending r).ctl := by
  rcases stepEventPending_cases s r with ⟨f, hf, -, hg, -, h'⟩ | h' <;> rw [h']
  · refine { h with edesr := h.edesr.setBit (.inl (edesrField_of_pending ?_)) }
    rintro rfl
    simpa using generates_exceptionCatch hf hg
  · exact h

theorem ctlClear_writeMdscr (v : Word) (ehbwe tta : Bool) (h : CtlClear s.cfg s.ctl) :
    CtlClear s.cfg (s.stepWriteMdscr v ehbwe tta).ctl := by
  unfold State.stepWriteMdscr
  split
  · refine { h with edscr2 := h.edscr2.merge fun k hk hb => ?_ }
    rw [maskIf_getLsbD, edscr2Fields_getLsbD _ _ hk, Bool.and_eq_true] at hb
    exact hb.2
  · exact h

theorem ctlClear_sysRegWritten (r : SysReg) (v : Dword) (hp : PlainStorage s) (h : CtlClear s.cfg s.ctl) :
    CtlClear s.cfg (s.sysRegWritten r v).ctl := by
  cases r
  case oseccr => exact ctlClear_writeEdeccr _ hp h
  case oslar => exact ctlClear_writeOsLock _ h
  case dbgprcr => exact { h with edprcr := h.edprcr.setBit (.inl rfl) }
  case dbgbcr n => simp only [State.sysRegWritten]; split <;> exact { h with }
  case dbgwcr n => simp only [State.sysRegWritten]; split <;> exact { h with }
  all_goals exact { h with }

theorem ctlClear_warmEntries (h : CtlClear s.cfg s.ctl) : CtlClear s.cfg s.warmEntries.ctl := by
  refine { h with edesr := h.edesr.of_le fun k _ hf hb => ?_ }
  have low : ¬k ≤ 2 := fun hk => by simp [edesrField, hk] at hf
  rw [show s.warmEntries.ctl.edesr = s.edesrAfterWarm from rfl, edesrAfterWarm_getLsbD] at hb
  simp only [show k ≠ 0 by omega, show k ≠ 1 by omega, show k ≠ 2 by omega, if_false] at hb
  split at hb
  · rename_i h3; subst h3; exact (Bool.and_eq_true _ _ ▸ hb).1
  · exact hb

theorem ctlClear_coldEntries (h : CtlClear s.cfg s.ctl) : CtlClear s.cfg s.coldEntries.ctl := by
  refine ⟨h.edeccr.and _, h.edecr.and _, ?_, h.edscr2.and _, h.edprcr.setBit (.inl rfl), ?_⟩
  · show Within _ (if s.cfg.dbg.doPD then edesrSet s.ctl.edesr .ss false else s.ctl.edesr)
    split
    · exact h.edesr.setBit (.inr rfl)
    · exact h.edesr
  · show Within _ (if s.cfg.has.editctrlDomain = .core then setBit s.ctl.editctrl 0 false else s.ctl.editctrl)
    split
    · exact h.editctrl.setBit (.inr rfl)
    · exact h.editctrl

theorem ctlClear_coldReset (h : CtlClear s.cfg s.ctl) : CtlClear s.cfg s.coldReset.ctl := by
  have cold := ctlClear_coldEntries h
  rw [← s.coldEntries_cfg] at cold ⊢
  exact ctlClear_warmEntries cold

theorem ctlClear_externalDebugReset (h : CtlClear s.cfg s.ctl) : CtlClear s.cfg s.externalDebugReset.ctl := by
  unfold State.externalDebugReset
  dsimp only
  split
  · exact h
  · refine { h with edecr := h.edecr.and _, edprcr := h.edprcr.setBit (.inr rfl), editctrl := ?_ }
    show Within _ (if s.cfg.has.editctrlDomain = .debug then setBit s.ctl.editctrl 0 false else s.ctl.editctrl)
    split
    · exact h.editctrl.setBit (.inr rfl)
    · exact h.editctrl

theorem ctlClear_leaveRetention (h : CtlClear s.cfg s.ctl) : CtlClear s.cfg s.leaveRetention.ctl := by
  rcases leaveRetention_cases s with ⟨-, w, h', hw⟩ | ⟨-, h'⟩ <;> rw [h']
  · refine { h with edprcr := h.edprcr.of_le fun k _ hf hb => ?_ }
    rwa [hw k (by rintro rfl; cases hf)] at hb
  · exact h

/-- No step of an agent sets a reserved bit. -/
theorem ctlClear_agentStep (a : AgentStep) (hp : PlainStorage s) (h : CtlClear s.cfg s.ctl) :
    CtlClear s.cfg (agentStep a s).ctl := by
  cases a <;> simp only [agentStep]
  case enterDebug r =>
    rcases stepEnterDebug_cases s r with ⟨-, -, h'⟩ | h' <;> rw [h']
    · exact ctlClear_enterDebugState r h
    · exact h
  case eventPending r => exact ctlClear_eventPending r h
  case takePending f k =>
    rcases stepTakePending_cases s f k with ⟨-, -, h'⟩ | h' <;> rw [h']
    · exact ctlClear_enterDebugState _ h
    · exact h
  case restartRequest => unfold State.stepRestartRequest; split <;> exact { h with }
  case exitDebug => rcases stepExitDebug_cases s with ⟨-, -, -, h'⟩ | h' <;> rw [h'] <;> [(split <;> exact { h with }); exact h]
  case takeItr e => rcases stepTakeItr_cases s e with ⟨-, h'⟩ | ⟨-, h'⟩ <;> rw [h'] <;> exact { h with }
  case memoryAccess p e => rcases stepMemoryAccess_cases s p e with ⟨-, -, -, -, h'⟩ | h' <;> rw [h'] <;> exact { h with }
  case takeRx => unfold State.stepTakeRx; split <;> exact { h with }
  case putTx v => unfold State.stepPutTx; split <;> exact { h with }
  case branchRetired addr => unfold State.stepBranchRetired; split <;> exact h
  case pipeAdvance => unfold State.stepPipeAdvance; split <;> exact { h with }
  case writeMdscr v ehbwe tta => exact ctlClear_writeMdscr v ehbwe tta h
  case contextSync => unfold State.stepContextSync; split <;> exact h
  case sysWrite r v =>
    rcases stepSysWrite_cases s r v with ⟨-, -, -, h'⟩ | ⟨-, -, -, h'⟩ | h' <;> rw [h']
    · exact ctlClear_enterDebugState _ h
    · exact ctlClear_sysRegWritten r v hp h
    · exact h
  case coldReset => exact ctlClear_coldReset h
  case warmReset =>
    unfold State.warmReset
    split
    · exact ctlClear_warmEntries (s := s.exitDebugState) { h with }
    · exact ctlClear_warmEntries h
  case externalDebugReset => exact ctlClear_externalDebugReset h
  case leaveReset => unfold State.leaveReset; split <;> exact h
  case powerDownCore => unfold State.powerDownCore; split <;> [exact { h with edesr := h.edesr.and _ }; exact h]
  case powerUpCore => unfold State.powerUpCore; split <;> [exact ctlClear_coldReset h; exact h]
  case enterRetention => unfold State.enterRetention; split <;> exact h
  case leaveRetention => exact ctlClear_leaveRetention h
  case setAuth a => unfold State.withAuth; split <;> exact h
  case setEnv e => exact h
  case setPe p => unfold State.stepSetPe; split <;> exact h
  case takeInterrupt p => unfold State.stepTakeInterrupt; split <;> exact h
  case setExtRequest b => exact h
  case extTraceAccessFailed ad => unfold State.extTraceAccessFailed; split <;> exact h
  case extPmuAccessFailed ad => unfold State.extPmuAccessFailed; split <;> exact h

end Agents

/-! ### Parameters -/

/-- The parameters are as they were, and the authentication and the PE's view are possible ones if they were. -/
structure KeepsConfiguration (s t : State) : Prop where
  cfg : t.cfg = s.cfg
  auth : t.auth = s.auth ∨ t.auth.isLegal s.cfg = true
  pe : t.pe = s.pe ∨ LegalView s.cfg t.pe

theorem KeepsConfiguration.same {s t : State} (hc : t.cfg = s.cfg) (ha : t.auth = s.auth) (hp : t.pe = s.pe) :
    KeepsConfiguration s t := ⟨hc, .inl ha, .inl hp⟩

theorem KeepsConfiguration.legalInputs {s t : State} (h : KeepsConfiguration s t) (hs : LegalInputs s) : LegalInputs t := by
  obtain ⟨cfg, auth, pe⟩ := h
  unfold LegalInputs
  rw [cfg]
  refine ⟨?_, ?_⟩
  · rcases auth with same | legal
    · rw [same]; exact hs.1
    · exact (auth_isLegal_iff s.cfg t.auth).1 legal
  · rcases pe with same | legal
    · rw [same]; exact hs.2
    · exact legal

theorem keepsConfiguration_coldReset (s : State) : KeepsConfiguration s s.coldReset :=
  .same (s.coldEntries.warmEntries_cfg.trans s.coldEntries_cfg) (s.coldEntries.warmEntries_auth.trans s.coldEntries_auth)
    (s.coldEntries.warmEntries_pe.trans s.coldEntries_pe)

/-- No step of an agent changes a parameter, and the inputs that it brings are possible ones. -/
theorem keepsConfiguration_agentStep (a : AgentStep) (s : State) : KeepsConfiguration s (agentStep a s) := by
  have unchanged : KeepsConfiguration s s := .same rfl rfl rfl
  cases a <;> simp only [agentStep]
  case enterDebug r => rcases stepEnterDebug_cases s r with ⟨-, -, h⟩ | h <;> rw [h] <;> exact .same rfl rfl rfl
  case eventPending r => rcases stepEventPending_cases s r with ⟨f, -, -, -, -, h⟩ | h <;> rw [h] <;> exact .same rfl rfl rfl
  case takePending f k => rcases stepTakePending_cases s f k with ⟨-, -, h⟩ | h <;> rw [h] <;> exact .same rfl rfl rfl
  case restartRequest => unfold State.stepRestartRequest; split <;> exact .same rfl rfl rfl
  case exitDebug =>
    rcases stepExitDebug_cases s with ⟨-, -, -, h⟩ | h <;> rw [h]
    · split <;> exact .same rfl rfl rfl
    · exact unchanged
  case takeItr e =>
    rcases stepTakeItr_cases s e with ⟨hw, h⟩ | ⟨-, h⟩ <;> rw [h]
    · exact ⟨rfl, .inl rfl, .inr hw.legal⟩
    · exact unchanged
  case memoryAccess p e =>
    rcases stepMemoryAccess_cases s p e with ⟨-, -, -, legal, h⟩ | h <;> rw [h]
    · exact ⟨rfl, .inl rfl, .inr legal⟩
    · exact unchanged
  case takeRx => unfold State.stepTakeRx; split <;> exact .same rfl rfl rfl
  case putTx v => unfold State.stepPutTx; split <;> exact .same rfl rfl rfl
  case branchRetired addr => unfold State.stepBranchRetired; split <;> exact .same rfl rfl rfl
  case pipeAdvance => unfold State.stepPipeAdvance; split <;> exact .same rfl rfl rfl
  case writeMdscr v ehbwe tta => unfold State.stepWriteMdscr; split <;> exact .same rfl rfl rfl
  case contextSync => unfold State.stepContextSync; split <;> exact .same rfl rfl rfl
  case sysWrite r v =>
    rcases stepSysWrite_cases s r v with ⟨-, -, -, h⟩ | ⟨-, -, -, h⟩ | h <;> rw [h]
    · exact .same rfl rfl rfl
    · obtain ⟨regs, dcc, ctl, lock, hf⟩ := sysRegWritten_frame s r v
      rw [hf]
      exact .same rfl rfl rfl
    · exact unchanged
  case coldReset => exact keepsConfiguration_coldReset s
  case warmReset => unfold State.warmReset; split <;> exact .same rfl rfl rfl
  case externalDebugReset => unfold State.externalDebugReset; dsimp only; split <;> exact .same rfl rfl rfl
  case leaveReset => unfold State.leaveReset; split <;> exact .same rfl rfl rfl
  case powerDownCore => unfold State.powerDownCore; split <;> exact .same rfl rfl rfl
  case powerUpCore =>
    unfold State.powerUpCore
    split
    · obtain ⟨cfg, auth, pe⟩ := keepsConfiguration_coldReset { s with power := { s.power with core := .powered } }
      exact ⟨cfg, auth, pe⟩
    · exact unchanged
  case enterRetention => unfold State.enterRetention; split <;> exact .same rfl rfl rfl
  case leaveRetention => unfold State.leaveRetention; split <;> exact .same rfl rfl rfl
  case setAuth a =>
    unfold State.withAuth
    split
    · exact ⟨rfl, .inr ‹_›, .inl rfl⟩
    · exact unchanged
  case setEnv e => exact .same rfl rfl rfl
  case setPe p =>
    unfold State.stepSetPe
    split
    · exact ⟨rfl, .inl rfl, .inr ((isLegal_iff s.cfg p).1 ‹_›)⟩
    · exact unchanged
  case takeInterrupt p =>
    unfold State.stepTakeInterrupt
    split
    · rename_i h
      simp only [Bool.and_eq_true, isLegal_iff] at h
      exact ⟨rfl, .inl rfl, .inr h.1.2⟩
    · exact unchanged
  case setExtRequest b => exact .same rfl rfl rfl
  case extTraceAccessFailed ad => unfold State.extTraceAccessFailed; split <;> exact .same rfl rfl rfl
  case extPmuAccessFailed ad => unfold State.extPmuAccessFailed; split <;> exact .same rfl rfl rfl

theorem keepsConfiguration_step {s t : State} (ht : step s = .next t) : KeepsConfiguration s t := by
  rcases (step_cases ht).2 with ⟨-, rfl⟩ | ⟨a, rest, -, rfl⟩ | ⟨bytes, rest, i, -, -, u, hu, rfl⟩
  · exact .same rfl rfl rfl
  · obtain ⟨cfg, auth, pe⟩ := keepsConfiguration_agentStep a (s.consume rest)
    exact ⟨cfg, auth, pe⟩
  · have kept := exec_leavesPe hu
    exact .same kept.cfg kept.auth kept.pe

/-- Settles O13: under PlainStorage neither a transaction nor a step of an agent sets a reserved bit, and no step changes the
parameters on which the fields depend. -/
theorem stepKeepsReservedClear : Obligations.StepKeepsReservedClear := by
  intro s t hs ht
  have cfg := (keepsConfiguration_step ht).cfg
  rw [reservedClear_iff] at hs ⊢
  intro hp
  rw [PlainStorage, cfg] at hp
  rw [cfg]
  have clear : CtlClear s.cfg s.ctl := hs hp
  rcases (step_cases ht).2 with ⟨-, rfl⟩ | ⟨a, rest, -, rfl⟩ | ⟨bytes, rest, i, -, -, u, hu, rfl⟩
  · exact clear
  · exact ctlClear_agentStep a (s := s.consume rest) hp clear
  · show CtlClear s.cfg u.ctl
    cases outcome_of_exec hu with
    | refused e hc => exact clear
    | read v => exact clear
    | ignored => exact clear
    | sideEffect v h => exact ctlClear_effect i (s := s.consume rest) hp clear
    | stored h => exact ctlClear_effect i (s := s.consume rest) hp clear

/-- Settles O14: each part holds of the values of the reset state. -/
theorem resetIsSafe : Obligations.ResetIsSafe := by
  have zero (field : Nat → Bool) : Within field 0 := fun k _ _ => BitVec.getLsbD_zero
  have clear : CtlClear configA State.reset.ctl := ⟨zero _, zero _, zero _, zero _, zero _, zero _⟩
  refine ⟨⟨statusCoherent_of_nonDebug rfl rfl, (reservedClear_iff _).2 fun _ => clear, ?_⟩, rfl, rfl⟩
  exact ⟨fun _ _ => rfl, by decide⟩

/-! ### The steps that change inputs -/

/-- Settles O15: no step changes a parameter or brings impossible inputs; the four input steps by their definitions. -/
theorem stepKeepsConfiguration : Obligations.StepKeepsConfiguration := by
  refine ⟨fun s t ht => ?kept, fun s a e p b => ?inputs⟩
  case kept =>
    have kept := keepsConfiguration_step ht
    exact ⟨kept.cfg, kept.legalInputs⟩
  case inputs =>
    refine ⟨fun h => ?_, fun h => ?_, fun h => ?_, fun h => ?_, rfl, rfl⟩
    · exact if_pos ((auth_isLegal_iff s.cfg a).2 h)
    · exact if_neg fun legal => h ((auth_isLegal_iff s.cfg a).1 legal)
    · exact if_pos ((isLegal_iff s.cfg p).2 h)
    · exact if_neg fun legal => h ((isLegal_iff s.cfg p).1 legal)

/-! ## Entering Debug state -/

/-- The ways in which the step `a` takes the Halting debug event `r`. -/
inductive Takes (s : State) : AgentStep → HaltReason → Prop where
  | event (r : HaltReason) (h : s.seen.eventEnabled r = true) : Takes s (.enterDebug r) r
  | pending (f : PendingEvent) (k : StepKind) (h : s.isPending f = true) : Takes s (.takePending f k) (f.reason k)
  | trap (r : SysReg) (v : Dword) (hr : r.trappedByTDA = true) (h : Trapped s) :
      Takes s (.sysWrite r v) .debugRegisterAccess

/-- From Non-debug state a step of an agent takes a Halting debug event, or the PE stays in Non-debug state. -/
theorem agentStep_halts_cases (a : AgentStep) {s : State} (hs : s.hal.halted = false) :
    (∃ r, s.canHalt r = true ∧ agentStep a s = s.enterDebugState r ∧ Takes s a r) ∨
      (agentStep a s).hal.halted = false := by
  cases a <;> simp only [agentStep]
  case enterDebug r =>
    rcases stepEnterDebug_cases s r with ⟨hc, he, h⟩ | h
    · exact .inl ⟨r, hc, h, .event r he⟩
    · exact .inr (by rw [h]; exact hs)
  case takePending f k =>
    rcases stepTakePending_cases s f k with ⟨hc, hf, h⟩ | h
    · exact .inl ⟨_, hc, h, .pending f k hf⟩
    · exact .inr (by rw [h]; exact hs)
  case sysWrite r v =>
    rcases stepSysWrite_cases s r v with ⟨hr, ⟨core, reset, first⟩, ht, h⟩ | ⟨-, -, -, h⟩ | h
    · exact .inl ⟨_, (canHalt_iff s _).2 ⟨core, reset, ht.1, ht.2.1, .inl first⟩, h, .trap r v hr ht⟩
    · obtain ⟨regs, dcc, ctl, lock, hf⟩ := sysRegWritten_frame s r v
      rw [h, State.settle_hal, hf]
      exact .inr hs
    · exact .inr (by rw [h]; exact hs)
  all_goals right
  case eventPending r => rcases stepEventPending_cases s r with ⟨f, -, -, -, -, h⟩ | h <;> rw [h] <;> exact hs
  case restartRequest => unfold State.stepRestartRequest; split <;> exact hs
  case exitDebug => rcases stepExitDebug_cases s with ⟨-, -, -, h⟩ | h <;> rw [h] <;> [rfl; exact hs]
  case takeItr e => rcases stepTakeItr_cases s e with ⟨-, h⟩ | ⟨-, h⟩ <;> rw [h] <;> exact hs
  case memoryAccess p e => rcases stepMemoryAccess_cases s p e with ⟨-, -, -, -, h⟩ | h <;> rw [h] <;> exact hs
  case takeRx => unfold State.stepTakeRx; split <;> exact hs
  case putTx v => unfold State.stepPutTx; split <;> exact hs
  case branchRetired addr => unfold State.stepBranchRetired; split <;> exact hs
  case pipeAdvance => unfold State.stepPipeAdvance; split <;> exact hs
  case writeMdscr v ehbwe tta => exact (keepsHalting_writeMdscr s v ehbwe tta).1.trans hs
  case contextSync => unfold State.stepContextSync; split <;> exact hs
  case coldReset => exact coldReset_halted s
  case warmReset => unfold State.warmReset; split <;> [rfl; exact hs]
  case externalDebugReset => unfold State.externalDebugReset; dsimp only; split <;> exact hs
  case leaveReset => unfold State.leaveReset; split <;> exact hs
  case powerDownCore => unfold State.powerDownCore; split <;> exact hs
  case powerUpCore => unfold State.powerUpCore; split <;> [exact coldReset_halted _; exact hs]
  case enterRetention => unfold State.enterRetention; split <;> exact hs
  case leaveRetention => unfold State.leaveRetention; split <;> exact hs
  case setAuth a => unfold State.withAuth; split <;> exact hs
  case setEnv e => exact hs
  case setPe p => unfold State.stepSetPe; split <;> exact hs
  case takeInterrupt p => unfold State.stepTakeInterrupt; split <;> exact hs
  case setExtRequest b => exact hs
  case extTraceAccessFailed ad => unfold State.extTraceAccessFailed; split <;> exact hs
  case extPmuAccessFailed ad => unfold State.extPmuAccessFailed; split <;> exact hs

/-- HDE as the PE sees it is that of a value of EDSCR that it may see. -/
theorem someControl_edscr_of_seen {s : State} (h : s.seen.hde = true) :
    SomeControl s .edscr fun v => v.getLsbD 14 = true := by
  obtain ⟨-, -, -, -, ⟨v, hv, hseen⟩, -⟩ := seen_controls s
  refine someControl_of_visible ⟨v, hv, ?_⟩
  have controls : edscrControls.getLsbD 14 = true := by decide
  rw [State.hde, hseen, merge_getLsbD, controls, if_pos rfl, loHalf_getLsbD] at h
  exact (Bool.and_eq_true _ _ ▸ h).2

theorem someControl_oslk_of_seen {s : State} (h : s.seen.osLock = false) :
    SomeControl s .oslk fun v => v.getLsbD 0 = false := by
  obtain ⟨-, -, -, -, -, -, -, -, v, hv, hseen⟩ := seen_controls s
  exact someControl_of_visible ⟨v, hv, hseen ▸ h⟩

/-- What a breakpoint and a watchpoint need of the halting controls, as the PE sees them (47 R716). -/
theorem seen_of_haltOnBreakpointOrWatchpoint {s : State} (h : s.seen.haltOnBreakpointOrWatchpoint = true) :
    SomeControl s .edscr (fun v => v.getLsbD 14 = true) ∧ SomeControl s .oslk (fun v => v.getLsbD 0 = false) := by
  simp only [State.haltOnBreakpointOrWatchpoint, Bool.and_eq_true, Bool.not_eq_true'] at h
  exact ⟨someControl_edscr_of_seen h.1.2, someControl_oslk_of_seen h.2⟩

theorem breakpointEnabled_necessary {s : State} {n : Index} {pc : FetchedAt} {control : BitVec 6}
    (h : s.breakpointEnabled n pc control = true) :
    n.toNat < s.cfg.pe.numBrp ∧ (s.bcr n).getLsbD 0 = true ∧ s.haltOnBreakpointOrWatchpoint = true := by
  simp only [State.breakpointEnabled, Bool.and_eq_true, Config.hasBreakpoint, decide_eq_true_eq, State.effectiveE,
    and_assoc] at h
  obtain ⟨implemented, -, enabled, halting, -⟩ := h
  exact ⟨implemented, enabled, halting⟩

theorem watchpointEnabled_necessary {s : State} {n : Index} {a : DataAccess} {control : BitVec 6}
    (h : s.watchpointEnabled n a control = true) :
    n.toNat < s.cfg.pe.numWrp ∧ (s.wcr n).getLsbD 0 = true ∧ s.haltOnBreakpointOrWatchpoint = true ∧
      (a.kind = .load → (s.wcr n).getLsbD 3 = true) ∧ (a.kind = .store → (s.wcr n).getLsbD 4 = true) := by
  simp only [State.watchpointEnabled, Bool.and_eq_true, Config.hasWatchpoint, decide_eq_true_eq, State.effectiveEWp,
    and_assoc] at h
  obtain ⟨implemented, -, enabled, halting, selects, -⟩ := h
  have lsc (j : Nat) (hj : j < 2) : (s.lsc n).getLsbD j = (s.wcr n).getLsbD (3 + j) := by
    simp [-BitVec.getLsbD_eq_getElem, State.lsc, hj]
  refine ⟨implemented, enabled, halting, fun hk => ?_, fun hk => ?_⟩
  · rw [hk] at selects; exact (lsc 0 (by decide)).symm.trans selects
  · rw [hk] at selects; exact (lsc 1 (by decide)).symm.trans selects

/-- Settles O16: only a step that takes a Halting debug event enters Debug state, and what an enabled breakpoint or watchpoint
needs of the controls holds of values that the PE may see. -/
theorem debugStateIsEnteredOnlyByHalting : Obligations.DebugStateIsEnteredOnlyByHalting := by
  intro a s hs ht
  rcases agentStep_halts_cases a hs with ⟨r, hc, hstep, htakes⟩ | h
  case inr => rw [h] at ht; cases ht
  obtain ⟨core, reset, -, allowed, first⟩ := (canHalt_iff s r).1 hc
  refine ⟨allowed, core, reset, ?way, fun hf => ?code, fun n pc control ha => ?breakpoint, fun n access control ha => ?watchpoint⟩
  case way =>
    cases htakes with
    | event r h => exact .inl ⟨r, rfl, h⟩
    | pending f k h => exact .inr (.inl ⟨f, k, rfl, h⟩)
    | trap r v hr h => exact .inr (.inr ⟨r, v, rfl, hr, h⟩)
  case code =>
    have hr : r = .resetCatch := first.resolve_left fun h => h hf
    rw [hstep, hr]
    exact enterDebugState_status s .resetCatch
  case breakpoint =>
    subst ha
    cases htakes with
    | event r h =>
      obtain ⟨implemented, enabled, halting⟩ := breakpointEnabled_necessary h
      rw [State.seen_cfg] at implemented
      exact ⟨implemented, someControl_of_visible ⟨_, (seen_controls s).2.1 n, enabled⟩,
        seen_of_haltOnBreakpointOrWatchpoint halting⟩
  case watchpoint =>
    subst ha
    cases htakes with
    | event r h =>
      obtain ⟨implemented, enabled, halting, load, store⟩ := watchpointEnabled_necessary h
      obtain ⟨-, -, -, wcr, -⟩ := seen_controls s
      rw [State.seen_cfg] at implemented
      exact ⟨implemented, someControl_of_visible ⟨_, wcr n, enabled, load, store⟩,
        seen_of_haltOnBreakpointOrWatchpoint halting⟩

end Sys2Proof.Proofs.Invariant
end

section
/-!
The values that identification and feature registers show (`DeviceIdentReads`, `AuthStatusRead`, `ProcessorFeatureReads`,
`DebugFeatureReads`), and the writes of the feature registers (`FeatureWritesIgnored`).
-/

namespace Sys2Proof.Proofs.Feature

open Sys2Proof.Machine Sys2Proof.Safety Sys2Proof.Proofs.Ident

/-! ## Words and doublewords as rows of fields -/

/-- A field of four bits of which only the lowest may be 1. -/
theorem fieldAt_nibble (lo : Nat) (b : Bool) :
    fieldAt lo (if b then 0b0001#4 else 0b0000#4) = bitAt lo b := by
  cases b <;> rfl

theorem dfieldAt_getLsbD {n : Nat} (lo : Nat) (v : BitVec n) (j : Nat) :
    (dfieldAt lo v).getLsbD j = (decide (j < 64 ∧ lo ≤ j) && v.getLsbD (j - lo)) := by
  simp only [dfieldAt, BitVec.getLsbD_shiftLeft, BitVec.getLsbD_setWidth]
  by_cases h1 : j < 64 <;> by_cases h2 : lo ≤ j
  · simp [h1, h2, show j - lo < 64 by omega]
  · simp [h2, show j < lo by omega]
  · simp [h1]
  · simp [h1]

theorem dfieldAt_nibble (lo : Nat) (b : Bool) :
    dfieldAt lo (if b then 0b0001#4 else 0b0000#4) = dfieldAt lo (BitVec.ofBool b) := by
  cases b <;> rfl

/-! ### The halves of a doubleword of fields -/

theorem loHalf_or (a b : Dword) : loHalf (a ||| b) = loHalf a ||| loHalf b := BitVec.extractLsb'_or

theorem hiHalf_or (a b : Dword) : hiHalf (a ||| b) = hiHalf a ||| hiHalf b := BitVec.extractLsb'_or

theorem loHalf_dfieldAt {n : Nat} (k : Nat) (v : BitVec n) : loHalf (dfieldAt k v) = fieldAt k v := by
  apply BitVec.eq_of_getLsbD_eq
  intro j hj
  simp only [loHalf_getLsbD, dfieldAt_getLsbD, fieldAt_getLsbD]
  simp [hj, show j < 64 by omega]

theorem fieldAt_of_high {n k : Nat} (v : BitVec n) (h : 32 ≤ k) : fieldAt k v = 0#32 := by
  apply BitVec.eq_of_getLsbD_eq
  intro j hj
  rw [fieldAt_getLsbD]
  simp [show ¬k ≤ j by omega]

theorem hiHalf_dfieldAt_of_high {n k : Nat} (v : BitVec n) (h : 32 ≤ k) : hiHalf (dfieldAt k v) = fieldAt (k - 32) v := by
  apply BitVec.eq_of_getLsbD_eq
  intro j hj
  simp only [hiHalf_getLsbD, dfieldAt_getLsbD, fieldAt_getLsbD, show 32 + j - k = j - (k - 32) by omega]
  simp only [hj, decide_true, Bool.true_and, show 32 + j < 64 by omega, true_and]
  congr 1
  exact decide_eq_decide.2 (by omega)

theorem hiHalf_dfieldAt_of_low {n k : Nat} (v : BitVec n) (h : k + n ≤ 32) : hiHalf (dfieldAt k v) = 0#32 := by
  apply BitVec.eq_of_getLsbD_eq
  intro j _
  simp only [hiHalf_getLsbD, dfieldAt_getLsbD, BitVec.getLsbD_of_ge v (32 + j - k) (by omega), BitVec.getLsbD_zero,
    Bool.and_false]

/-! ## Rows with free fields -/

theorem merge_zero {n : Nat} (a b : BitVec n) : merge 0#n a b = a := by simp [merge]

theorem merge_allOnes {n : Nat} (a b : BitVec n) : merge (BitVec.allOnes n) a b = b := by simp [merge]

/-- A merge of rows is the row of the merges. -/
theorem merge_append {m n : Nat} (p a : BitVec m) (q b : BitVec n) (f : BitVec (m + n)) :
    merge (p ++ q) (a ++ b) f = merge p a (f.extractLsb' n m) ++ merge q b (f.extractLsb' 0 n) := by
  apply BitVec.eq_of_getLsbD_eq
  intro j hj
  simp only [merge_getLsbD, BitVec.getLsbD_append, BitVec.getLsbD_extractLsb']
  by_cases h : j < n
  · simp [h]
  · simp [h, show j - n < m by omega, show n + (j - n) = j by omega]

/-- A row with two free fields. -/
theorem merge_two_free {k l m n o : Nat} (u₀ : BitVec k) (a : BitVec l) (u₁ : BitVec m) (b : BitVec n) (c : BitVec o)
    (f : BitVec (k + l + m + n + o)) :
    ∃ (u : BitVec k) (u' : BitVec m),
      merge (BitVec.allOnes k ++ 0#l ++ BitVec.allOnes m ++ 0#n ++ 0#o) (u₀ ++ a ++ u₁ ++ b ++ c) f =
        u ++ a ++ u' ++ b ++ c := by
  let f₁ := (f.extractLsb' o (k + l + m + n)).extractLsb' n (k + l + m)
  refine ⟨(f₁.extractLsb' m (k + l)).extractLsb' l k, f₁.extractLsb' 0 m, ?_⟩
  simp only [merge_append, merge_allOnes, merge_zero]
  rfl

/-- A row with three free fields, and a field that is free unless `known`. -/
theorem merge_three_free {k l m n o p : Nat} (known : Bool) (u₀ : BitVec k) (a : BitVec l) (u₁ : BitVec m) (b : BitVec n)
    (c : BitVec o) (u₂ : BitVec p) (f : BitVec (k + l + m + n + o + p)) :
    ∃ (u : BitVec k) (u' : BitVec m) (x : BitVec n) (u'' : BitVec p), merge
        (BitVec.allOnes k ++ 0#l ++ BitVec.allOnes m ++ maskIf (!known) (BitVec.allOnes n) ++ 0#o ++ BitVec.allOnes p)
        (u₀ ++ a ++ u₁ ++ b ++ c ++ u₂) f =
      u ++ a ++ u' ++ (if known then b else x) ++ c ++ u'' := by
  let f₁ := f.extractLsb' p (k + l + m + n + o)
  let f₂ := f₁.extractLsb' o (k + l + m + n)
  let f₃ := f₂.extractLsb' n (k + l + m)
  refine ⟨(f₃.extractLsb' m (k + l)).extractLsb' l k, f₃.extractLsb' 0 m, f₂.extractLsb' 0 n, f.extractLsb' 0 p, ?_⟩
  have field : merge (maskIf (!known) (BitVec.allOnes n)) b (f₂.extractLsb' 0 n) =
      if known then b else f₂.extractLsb' 0 n := by
    cases known
    · exact merge_allOnes _ _
    · exact merge_zero _ _
  simp only [merge_append, merge_allOnes, merge_zero]
  rw [← field]

theorem loHalf_merge (m a b : Dword) : loHalf (merge m a b) = merge (loHalf m) (loHalf a) (loHalf b) := by
  apply BitVec.eq_of_getLsbD_eq
  intro j hj
  simp only [loHalf_getLsbD, merge_getLsbD, hj, decide_true, Bool.true_and]

theorem hiHalf_merge (m a b : Dword) : hiHalf (merge m a b) = merge (hiHalf m) (hiHalf a) (hiHalf b) := by
  apply BitVec.eq_of_getLsbD_eq
  intro j hj
  simp only [hiHalf_getLsbD, merge_getLsbD, hj, decide_true, Bool.true_and]

/-! ## The device identification registers -/

theorem devAff0_eq_append (s : State) :
    devAff0 s = 0b1#1 ++ BitVec.ofBool s.cfg.ident.affU ++ 0b00000#5 ++ BitVec.ofBool s.cfg.ident.affMT ++
      s.cfg.ident.aff2 ++ s.cfg.ident.aff1 ++ s.cfg.ident.aff0 := by
  refine Eq.trans ?_ (fieldAt_zero_eq_cast (0b1#1 ++ BitVec.ofBool s.cfg.ident.affU ++ 0b00000#5 ++
    BitVec.ofBool s.cfg.ident.affMT ++ s.cfg.ident.aff2 ++ s.cfg.ident.aff1 ++ s.cfg.ident.aff0) rfl)
  simp only [fieldAt_append, fieldAt_zeros, BitVec.ofNat_eq_ofNat, BitVec.or_zero]
  rfl

theorem devId_eq_append (s : State) :
    devId s = 0b0000#4 ++ (if s.cfg.has.edacr then 0b0001#4 else 0b0000#4) ++ 0#16 ++
      (if s.cfg.dbg.doPD then 0b0001#4 else 0b0000#4) ++
      (if !s.cfg.hasPcsr then (0b0000 : BitVec 4) else if s.cfg.hasVidsr then 0b0011 else 0b0010) := by
  refine Eq.trans ?_ (fieldAt_zero_eq_cast (0b0000#4 ++ (if s.cfg.has.edacr then 0b0001#4 else 0b0000#4) ++ 0#16 ++
    (if s.cfg.dbg.doPD then 0b0001#4 else 0b0000#4) ++
    (if !s.cfg.hasPcsr then (0b0000 : BitVec 4) else if s.cfg.hasVidsr then 0b0011 else 0b0010)) rfl)
  simp only [fieldAt_append, fieldAt_zeros, fieldAt_nibble, BitVec.ofNat_eq_ofNat, BitVec.or_zero, BitVec.zero_or]
  rfl

theorem devId1_eq_append (s : State) :
    devId1 s = 0#24 ++
      (if s.cfg.dbg.debugv8p9 then 0b0010#4 else if s.cfg.dbg.edhsr then 0b0001#4 else 0b0000#4) ++
      (if s.cfg.hasPcsr then 0b0010#4 else 0b0000#4) :=
  word_of_two_fields (k := 24) rfl _ _

theorem devArch_eq_append (s : State) :
    devArch s = 0b01000111011#11 ++ 0b1#1 ++ 0b0000#4 ++ archVer s.cfg ++ 0xA15#12 := by
  rw [devArch]
  generalize archVer s.cfg = version
  revert version
  decide

/-- Settles O18: each of the reads is RD_ID() of a row of fields. -/
theorem deviceIdentReads : Obligations.DeviceIdentReads := by
  intro s ad
  have pcSample :
      (if !s.cfg.hasPcsr then (0b0000 : BitVec 4) else if s.cfg.hasVidsr then 0b0011 else 0b0010) =
        if !(s.cfg.sys.pcsrv8 && !s.cfg.sys.pcsrv8p2) then 0b0000
        else if s.cfg.pe.haveEL2 || s.cfg.pe.haveEL3 || s.cfg.has.edvidsr then 0b0011 else 0b0010 := by
    cases h : s.cfg.hasPcsr <;> rw [Config.hasPcsr] at h <;> simp [Config.hasVidsr, Config.hasPcsr, h]
  refine ⟨?edaff0, ?edaff1, ?devid, ?devid1, ?devid2, fun hc => ?devarch⟩
  case edaff0 => exact identRead_of rfl (devAff0_eq_append s)
  case edaff1 => exact identRead_of rfl (Claim.fieldAt_zero_byte _)
  case devid => exact identRead_of rfl ((devId_eq_append s).trans (by rw [pcSample]))
  case devid1 => exact identRead_of rfl (devId1_eq_append s)
  case devid2 => exact identRead_of (f := fun _ => 0) rfl rfl
  case devarch => exact identRead_of_optional hc rfl (devArch_eq_append s)

/-! ## DBGAUTHSTATUS_EL1 -/

/-- The row of the eight fields of DBGAUTHSTATUS_EL1. -/
theorem authStatus_row (rt rl snid sid nsnid nsid : BitVec 2) :
    fieldAt 26 rt ||| fieldAt 24 rt ||| fieldAt 14 rl ||| fieldAt 12 rl ||| fieldAt 6 snid ||| fieldAt 4 sid |||
      fieldAt 2 nsnid ||| fieldAt 0 nsid =
    0b0000#4 ++ rt ++ rt ++ 0#8 ++ rl ++ rl ++ 0b0000#4 ++ snid ++ sid ++ nsnid ++ nsid := by
  refine Eq.trans ?_ (fieldAt_zero_eq_cast
    (0b0000#4 ++ rt ++ rt ++ 0#8 ++ rl ++ rl ++ 0b0000#4 ++ snid ++ sid ++ nsnid ++ nsid) rfl)
  simp only [fieldAt_append, fieldAt_zeros, BitVec.ofNat_eq_ofNat, BitVec.or_zero, BitVec.zero_or]

theorem authField_eq (impl enabled : Bool) :
    authField impl enabled = if impl then (if enabled then 0b11#2 else 0b10#2) else 0b00#2 := by
  cases impl <;> rfl

/-- Settles O19: the read is RD_ID() of the row of fields, each the code of one kind of debug. -/
theorem authStatusRead : Obligations.AuthStatusRead := by
  intro s ad
  refine identRead_of rfl ?_
  simp only [authStatus, authField_eq, authStatus_row]
  rfl

/-! ## The feature ladders -/

section Ladders

variable {s : State} {reg : ImpdefReg} {readable : Bool}

theorem readFeature_of_readable (h : readable = true) (hi : Bool) (v : Dword) (ad : AddrDesc) :
    readFeature reg readable hi v ad s = s.okRead (halfOf hi v) := by
  simp only [readFeature, ladderFeature, h, if_true, readBy]

theorem writeFeature_of_readable (h : readable = true) (ad : AddrDesc) :
    writeFeature reg readable ad s = s.okWrite := by
  simp only [writeFeature, ladderFeature, h, if_true, writeBy]

theorem ladderFeature_of_unreachable (h : readable = false) (hr : ¬Reachable s) (ad : AddrDesc) :
    ladderFeature s ad reg readable = .error := by
  obtain ⟨doPD, off⟩ := not_not.1 hr
  simp only [ladderFeature, h, doPD, off, Bool.false_eq_true, if_false, Bool.not_false, Bool.and_self, if_true]

theorem readFeature_of_unreachable (h : readable = false) (hr : ¬Reachable s) (hi : Bool) (v : Dword) (ad : AddrDesc) :
    readFeature reg readable hi v ad s = { s with response := .error } := by
  rw [readFeature, ladderFeature_of_unreachable h hr]
  exact raiseError_plain s ad .coreOff rfl

theorem writeFeature_of_unreachable (h : readable = false) (hr : ¬Reachable s) (ad : AddrDesc) :
    writeFeature reg readable ad s = { s with response := .error } := by
  rw [writeFeature, ladderFeature_of_unreachable h hr]
  exact raiseError_plain s ad .coreOff rfl

theorem coreReadable_of_coreOn (h : CoreOn s) : s.coreReadable = true := by simp [State.coreReadable, h.1, h.2]

theorem coreReadableNonzero_of_coreOn (h : CoreOn s) {v : Dword} (hv : v ≠ 0 ∨ s.osLock = false) :
    s.coreReadableNonzero v = true := by
  rw [State.coreReadableNonzero, coreReadable_of_coreOn h]
  rcases hv with hv | hv
  · simp only [bne_iff_ne.2 hv, Bool.true_or, Bool.and_self]
  · simp [hv]

theorem coreReadable_of_unreachable (h : ¬Reachable s) : s.coreReadable = false := by
  simp [State.coreReadable, (not_not.1 h).2]

theorem coreReadableNonzero_of_unreachable (h : ¬Reachable s) (v : Dword) : s.coreReadableNonzero v = false := by
  simp [State.coreReadableNonzero, coreReadable_of_unreachable h]

theorem ladderMidr_of_coreOn (h : CoreOn s) (ad : AddrDesc) : ladderMidr s ad = .ro := by simp [ladderMidr, h.1, h.2]

end Ladders

/-- Settles O21: the ladders of the feature registers and of MIDR_EL1 say RO, and with FEAT_DoPD and the Core off ERROR. -/
theorem featureWritesIgnored : Obligations.FeatureWritesIgnored := by
  intro s d ad
  have ignored {reg : ImpdefReg} {readable : Bool} (h : readable = true) :
      Host.Outcome.next (writeFeature reg readable ad s) = accepts s := by
    rw [writeFeature_of_readable h]; rfl
  have refused {reg : ImpdefReg} {readable : Bool} (h : readable = false) (hr : ¬Reachable s) :
      Host.Outcome.next (writeFeature reg readable ad s) = errors s := by
    rw [writeFeature_of_unreachable h hr]
  refine ⟨fun h => ?core, fun h hv => ?dfr1, fun h hv => ?dfr2, fun hr i hi => ?unreachable⟩
  case core =>
    have on := coreReadable_of_coreOn h
    refine ⟨?_, ignored on, ignored on, ignored on, ignored on, ignored on, ignored on⟩
    simp only [exec, execWrMidr, ladderMidr_of_coreOn h, writeBy]
    rfl
  case dfr1 =>
    have on := coreReadableNonzero_of_coreOn h hv
    exact ⟨ignored on, ignored on⟩
  case dfr2 =>
    have on := coreReadableNonzero_of_coreOn h hv
    exact ⟨ignored on, ignored on⟩
  case unreachable =>
    have off := refused (reg := .edpfr) (coreReadable_of_unreachable hr) hr
    have off' := refused (reg := .edaa32pfr) (coreReadable_of_unreachable hr) hr
    have off'' := refused (reg := .eddfr) (coreReadable_of_unreachable hr) hr
    have off1 := refused (reg := .eddfr1) (coreReadableNonzero_of_unreachable hr (dfr1 s)) hr
    have off2 := refused (reg := .eddfr2) (coreReadableNonzero_of_unreachable hr (dfr2 s)) hr
    simp only [List.mem_cons, List.not_mem_nil, or_false] at hi
    rcases hi with rfl | rfl | rfl | rfl | rfl | rfl | rfl | rfl | rfl | rfl
    exacts [off, off, off', off', off'', off'', off1, off1, off2, off2]

/-! ## The processor feature registers -/

/-- EDPFR[27:0]. -/
abbrev pfrLow (p : PfrParams) : BitVec 28 := p.gic ++ p.advSIMD ++ p.fp ++ p.el3 ++ p.el2 ++ p.el1 ++ p.el0

theorem append_pfrLow (u : BitVec 4) (p : PfrParams) :
    u ++ p.gic ++ p.advSIMD ++ p.fp ++ p.el3 ++ p.el2 ++ p.el1 ++ p.el0 = u ++ pfrLow p := by
  have rows : fieldAt 0 (u ++ p.gic ++ p.advSIMD ++ p.fp ++ p.el3 ++ p.el2 ++ p.el1 ++ p.el0) =
      fieldAt 0 (u ++ (p.gic ++ p.advSIMD ++ p.fp ++ p.el3 ++ p.el2 ++ p.el1 ++ p.el0)) := by
    simp only [fieldAt_append]
    simp only [BitVec.or_assoc, Nat.reduceAdd]
  exact (fieldAt_zero_eq_cast _ rfl).symm.trans (rows.trans (fieldAt_zero_eq_cast _ rfl))

theorem loHalf_pfr (s : State) : ∃ u : BitVec 4, loHalf (pfr s) = u ++ pfrLow s.cfg.pfr := by
  have mask : loHalf (dmask 63 48 ||| dmask 43 40 ||| dmask 31 28) = BitVec.allOnes 4 ++ 0#28 := by decide
  have row (p : PfrParams) : fieldAt 24 p.gic ||| fieldAt 20 p.advSIMD ||| fieldAt 16 p.fp ||| fieldAt 12 p.el3 |||
      fieldAt 8 p.el2 ||| fieldAt 4 p.el1 ||| fieldAt 0 p.el0 = 0#4 ++ pfrLow p := by
    refine Eq.trans ?_ (fieldAt_zero_eq_cast
      (0#4 ++ (p.gic ++ p.advSIMD ++ p.fp ++ p.el3 ++ p.el2 ++ p.el1 ++ p.el0)) rfl)
    simp only [fieldAt_append, fieldAt_zeros, BitVec.ofNat_eq_ofNat, BitVec.zero_or]
  refine ⟨(loHalf (s.free64 .idReserved)).extractLsb' 28 4, ?_⟩
  rw [pfr, loHalf_merge, mask]
  simp (disch := decide) only [loHalf_or, loHalf_dfieldAt, fieldAt_of_high, BitVec.zero_or, row]
  exact (merge_append (m := 4) (n := 28) _ _ _ _ _).trans (by rw [merge_allOnes, merge_zero])

theorem hiHalf_pfr (s : State) : ∃ (u : BitVec 16) (u' : BitVec 4), hiHalf (pfr s) =
    u ++ s.cfg.pfr.amu ++ u' ++ (if s.cfg.sys.sel2 then 0b0001#4 else 0b0000#4) ++
      (if s.cfg.sys.sve then 0b0001#4 else 0b0000#4) := by
  have mask : hiHalf (dmask 63 48 ||| dmask 43 40 ||| dmask 31 28) =
      BitVec.allOnes 16 ++ 0#4 ++ BitVec.allOnes 4 ++ 0#4 ++ 0#4 := by decide
  have row (a sel2 sve : BitVec 4) : fieldAt 12 a ||| fieldAt 4 sel2 ||| fieldAt 0 sve =
      0#16 ++ a ++ 0#4 ++ sel2 ++ sve := by
    refine Eq.trans ?_ (fieldAt_zero_eq_cast (0#16 ++ a ++ 0#4 ++ sel2 ++ sve) rfl)
    simp only [fieldAt_append, fieldAt_zeros, BitVec.ofNat_eq_ofNat, BitVec.zero_or, BitVec.or_zero]
  obtain ⟨u, u', h⟩ := merge_two_free 0#16 s.cfg.pfr.amu 0#4
    (if s.cfg.sys.sel2 then 0b0001#4 else 0b0000#4) (if s.cfg.sys.sve then 0b0001#4 else 0b0000#4)
    (hiHalf (s.free64 .idReserved))
  refine ⟨u, u', ?_⟩
  rw [pfr, hiHalf_merge, mask]
  simp (disch := decide) only [← dfieldAt_nibble, hiHalf_or, hiHalf_dfieldAt_of_high, hiHalf_dfieldAt_of_low,
    BitVec.or_zero, row, Nat.reduceSub]
  exact h

theorem loHalf_aa32pfr (s : State) :
    let p := s.cfg.pfr
    loHalf (aa32pfr s) =
      0#12 ++ (if p.aa32PMSA = 0 ∧ p.aa32VMSA = 0b1111 then p.aa32MsaFrac else 0b0000#4) ++
        (if p.el3 = 0 then p.aa32EL3 else 0b0000#4) ++ (if p.el2 = 0 then p.aa32EL2 else 0b0000#4) ++ p.aa32PMSA ++
        p.aa32VMSA := by
  have row (a b c d e : BitVec 4) : fieldAt 16 a ||| fieldAt 12 b ||| fieldAt 8 c ||| fieldAt 4 d ||| fieldAt 0 e =
      0#12 ++ a ++ b ++ c ++ d ++ e := by
    refine Eq.trans ?_ (fieldAt_zero_eq_cast (0#12 ++ a ++ b ++ c ++ d ++ e) rfl)
    simp only [fieldAt_append, fieldAt_zeros, BitVec.ofNat_eq_ofNat, BitVec.zero_or]
  simp only [aa32pfr, loHalf_or, loHalf_dfieldAt, row, Bool.and_eq_true, decide_eq_true_eq]
  rfl

theorem hiHalf_aa32pfr (s : State) : hiHalf (aa32pfr s) = 0 := by
  simp (disch := decide) only [aa32pfr, hiHalf_or, hiHalf_dfieldAt_of_low, BitVec.or_zero]
  rfl

/-- A read of a feature register that its ladder admits, and one with FEAT_DoPD and the Core off. -/
theorem featureRead {s : State} {reg : ImpdefReg} {readable : Bool} (hi : Bool) (v : Dword) (ad : AddrDesc) :
    (readable = true → Host.Outcome.next (readFeature reg readable hi v ad s) = reads s (halfOf hi v)) ∧
    (readable = false → ¬Reachable s → Host.Outcome.next (readFeature reg readable hi v ad s) = errors s) :=
  ⟨fun h => by rw [readFeature_of_readable h]; rfl, fun h hr => by rw [readFeature_of_unreachable h hr]⟩

/-- Settles O22: the ladders say RO, and the halves of the registers are rows of fields. -/
theorem processorFeatureReads : Obligations.ProcessorFeatureReads := by
  intro s ad
  refine ⟨fun h => ?core, fun hr i hi => ?unreachable⟩
  case core =>
    have on := coreReadable_of_coreOn h
    obtain ⟨u, hlo⟩ := loHalf_pfr s
    obtain ⟨u', u'', hhi⟩ := hiHalf_pfr s
    refine ⟨?midr, ?aa32Lo, ?aa32Hi, ⟨u, ?pfrLo⟩, ⟨u', u'', ?pfrHi⟩⟩
    case midr =>
      simp only [exec, execRdMidr, ladderMidr_of_coreOn h, readBy]
      rfl
    case aa32Lo => rw [← loHalf_aa32pfr s]; exact (featureRead false (aa32pfr s) ad).1 on
    case aa32Hi => rw [← hiHalf_aa32pfr s]; exact (featureRead true (aa32pfr s) ad).1 on
    case pfrLo =>
      rw [append_pfrLow, ← hlo]
      exact (featureRead false (pfr s) ad).1 on
    case pfrHi => rw [← hhi]; exact (featureRead true (pfr s) ad).1 on
  case unreachable =>
    have off (reg : ImpdefReg) (hi : Bool) (v : Dword) :=
      (featureRead (reg := reg) hi v ad).2 (coreReadable_of_unreachable hr) hr
    simp only [List.mem_cons, List.not_mem_nil, or_false] at hi
    rcases hi with rfl | rfl | rfl | rfl
    exacts [off _ _ _, off _ _ _, off _ _ _, off _ _ _]

/-! ## The debug feature registers -/

theorem dfrCount_eq (n : Nat) : dfrCount n = if 16 ≤ n then 0b1111#4 else BitVec.ofNat 4 (n - 1) := by
  unfold dfrCount
  split
  · rw [Nat.min_eq_right (by omega)]
  · rw [Nat.min_eq_left (by omega)]

theorem dfr1Count_eq (c : Config) (shown : Bool) (n : Nat) :
    dfr1Count c shown n = if 16 ≤ n ∧ c.dbg.debugv8p9 = true ∨ shown = true then BitVec.ofNat 8 (n - 1) else 0#8 := by
  simp only [dfr1Count, Bool.or_eq_true, Bool.and_eq_true, decide_eq_true_eq, and_comm]
  rfl

theorem loHalf_dfr (s : State) :
    let c := s.cfg
    ∃ u : BitVec 4, loHalf (dfr s) = dfrCount c.pe.numCtxCmp ++ c.dfr.sebep ++ dfrCount c.pe.numWrp ++ c.dfr.pmss ++
      dfrCount c.pe.numBrp ++ c.dfr.pmuVer ++ c.dfr.traceVer ++ u := by
  have mask : loHalf (dmask 63 60 ||| dmask 55 48 ||| maskIf (!s.cfg.sys.trbeExt) (dmask 47 44) ||| dmask 39 32 ||| dmask 3 0) =
      0#28 ++ BitVec.allOnes 4 := by cases s.cfg.sys.trbeExt <;> decide
  have row (a b c d e f g : BitVec 4) : fieldAt 28 a ||| fieldAt 24 b ||| fieldAt 20 c ||| fieldAt 16 d ||| fieldAt 12 e |||
      fieldAt 8 f ||| fieldAt 4 g = a ++ b ++ c ++ d ++ e ++ f ++ g ++ 0#4 := by
    refine Eq.trans ?_ (fieldAt_zero_eq_cast (a ++ b ++ c ++ d ++ e ++ f ++ g ++ 0#4) rfl)
    simp only [fieldAt_append, fieldAt_zeros, BitVec.ofNat_eq_ofNat, BitVec.or_zero]
  refine ⟨(loHalf (s.free64 .idReserved)).extractLsb' 0 4, ?_⟩
  simp (disch := decide) only [dfr, loHalf_merge, mask, loHalf_or, loHalf_dfieldAt, fieldAt_of_high, BitVec.zero_or, row]
  exact (merge_append (m := 28) (n := 4) _ _ _ _ _).trans (by rw [merge_allOnes, merge_zero])

theorem hiHalf_dfr (s : State) :
    let c := s.cfg
    let bit4 := fun (b : Bool) => if b then 0b0001#4 else 0b0000#4
    ∃ (u : BitVec 4) (u' u'' : BitVec 8) (x : BitVec 4), hiHalf (dfr s) =
      u ++ bit4 c.sys.trbeExt ++ u' ++ (if c.sys.trbeExt then c.dfr.traceBuffer else x) ++ bit4 c.sys.trf ++ u'' := by
  have mask : hiHalf (dmask 63 60 ||| dmask 55 48 ||| maskIf (!s.cfg.sys.trbeExt) (dmask 47 44) ||| dmask 39 32 ||| dmask 3 0) =
      BitVec.allOnes 4 ++ 0#4 ++ BitVec.allOnes 8 ++ maskIf (!s.cfg.sys.trbeExt) (BitVec.allOnes 4) ++ 0#4 ++
        BitVec.allOnes 8 := by cases s.cfg.sys.trbeExt <;> decide
  have row (a b c : BitVec 4) : fieldAt 24 a ||| fieldAt 12 b ||| fieldAt 8 c = 0#4 ++ a ++ 0#8 ++ b ++ c ++ 0#8 := by
    refine Eq.trans ?_ (fieldAt_zero_eq_cast (0#4 ++ a ++ 0#8 ++ b ++ c ++ 0#8) rfl)
    simp only [fieldAt_append, fieldAt_zeros, BitVec.ofNat_eq_ofNat, BitVec.zero_or, BitVec.or_zero]
  obtain ⟨u, u', x, u'', h⟩ := merge_three_free s.cfg.sys.trbeExt 0#4 (if s.cfg.sys.trbeExt then 0b0001#4 else 0b0000#4)
    0#8 s.cfg.dfr.traceBuffer (if s.cfg.sys.trf then 0b0001#4 else 0b0000#4) 0#8 (hiHalf (s.free64 .idReserved))
  refine ⟨u, u', u'', x, ?_⟩
  simp (disch := decide) only [dfr, hiHalf_merge, mask, ← dfieldAt_nibble, hiHalf_or, hiHalf_dfieldAt_of_high,
    hiHalf_dfieldAt_of_low, BitVec.or_zero, row, Nat.reduceSub]
  exact h

/-- EDDFR1 as the row of its fields. -/
theorem dfr1_halves (s : State) :
    let c := s.cfg
    loHalf (dfr1 s) =
      dfr1Count c c.dfr.dfr1CtxCmps c.pe.numCtxCmp ++ dfr1Count c c.dfr.dfr1Wrps c.pe.numWrp ++
        dfr1Count c c.dfr.dfr1Brps c.pe.numBrp ++ c.dfr.syspmuid ∧
    hiHalf (dfr1 s) =
      (if c.dbg.able then BitVec.ofNat 8 (c.pe.numAblCmp - 1) else 0#8) ++ c.dfr.dpfzs ++ c.dfr.ebep ++ c.dfr.ite ++
        (if c.dbg.able then 0b0001#4 else 0b0000#4) ++ c.dfr.pmicntr ++ c.dfr.spmu := by
  refine ⟨?_, ?_⟩
  · have row (a b c d : BitVec 8) : fieldAt 24 a ||| fieldAt 16 b ||| fieldAt 8 c ||| fieldAt 0 d = a ++ b ++ c ++ d := by
      refine Eq.trans ?_ (fieldAt_zero_eq_cast (a ++ b ++ c ++ d) rfl)
      simp only [fieldAt_append]
    simp (disch := decide) only [dfr1, loHalf_or, loHalf_dfieldAt, fieldAt_of_high, BitVec.zero_or, row]
  · have row (a : BitVec 8) (b c d e f g : BitVec 4) : fieldAt 24 a ||| fieldAt 20 b ||| fieldAt 16 c ||| fieldAt 12 d |||
        fieldAt 8 e ||| fieldAt 4 f ||| fieldAt 0 g = a ++ b ++ c ++ d ++ e ++ f ++ g := by
      refine Eq.trans ?_ (fieldAt_zero_eq_cast (a ++ b ++ c ++ d ++ e ++ f ++ g) rfl)
      simp only [fieldAt_append]
    simp (disch := decide) only [dfr1, ← dfieldAt_nibble, hiHalf_or, hiHalf_dfieldAt_of_high, hiHalf_dfieldAt_of_low,
      BitVec.or_zero, row, Nat.reduceSub]
    rfl

/-- EDDFR2 as the row of its fields. -/
theorem dfr2_halves (s : State) :
    let c := s.cfg
    loHalf (dfr2 s) =
      0#4 ++ c.dfr.trbeExc ++ c.dfr.speNVM ++ c.dfr.speExc ++ 0#8 ++
        (if c.dbg.bwe2 then 0b0010#4 else if c.dbg.bwe && c.dfr.bweShown then 0b0001#4 else 0b0000#4) ++ c.dfr.step ∧
    hiHalf (dfr2 s) = 0 := by
  refine ⟨?_, ?_⟩
  · have row (a b c d e : BitVec 4) : fieldAt 24 a ||| fieldAt 20 b ||| fieldAt 16 c ||| fieldAt 4 d ||| fieldAt 0 e =
        0#4 ++ a ++ b ++ c ++ 0#8 ++ d ++ e := by
      refine Eq.trans ?_ (fieldAt_zero_eq_cast (0#4 ++ a ++ b ++ c ++ 0#8 ++ d ++ e) rfl)
      simp only [fieldAt_append, fieldAt_zeros, BitVec.ofNat_eq_ofNat, BitVec.zero_or, BitVec.or_zero]
    simp only [dfr2, loHalf_or, loHalf_dfieldAt, row]
    rfl
  · simp (disch := decide) only [dfr2, hiHalf_or, hiHalf_dfieldAt_of_low, BitVec.or_zero]
    rfl

theorem ne_zero_of_half {v : Dword} (h : loHalf v ≠ 0 ∨ hiHalf v ≠ 0) : v ≠ 0 := by
  rintro rfl
  rcases h with h | h <;> exact h (by decide)

/-- Settles O23: the ladders say RO, and the halves of the registers are rows of fields. -/
theorem debugFeatureReads : Obligations.DebugFeatureReads := by
  intro s ad _
  dsimp only
  simp only [← dfrCount_eq, ← dfr1Count_eq]
  refine ⟨fun h => ?dfr, fun h hv => ?dfr1, fun h hv => ?dfr2, fun hr i hi => ?unreachable⟩
  case dfr =>
    have on := coreReadable_of_coreOn h
    obtain ⟨u, hlo⟩ := loHalf_dfr s
    obtain ⟨v, v', v'', x, hhi⟩ := hiHalf_dfr s
    refine ⟨⟨u, ?_⟩, ⟨v, v', v'', x, ?_⟩⟩
    · rw [← hlo]; exact (featureRead false (dfr s) ad).1 on
    · rw [← hhi]; exact (featureRead true (dfr s) ad).1 on
  case dfr1 =>
    obtain ⟨hlo, hhi⟩ := dfr1_halves s
    rw [← hlo, ← hhi] at hv ⊢
    have on := coreReadableNonzero_of_coreOn h ((or_assoc.2 hv).imp_left ne_zero_of_half)
    exact ⟨(featureRead false (dfr1 s) ad).1 on, (featureRead true (dfr1 s) ad).1 on⟩
  case dfr2 =>
    obtain ⟨hlo, hhi⟩ := dfr2_halves s
    rw [← hlo] at hv ⊢
    rw [← hhi]
    have on := coreReadableNonzero_of_coreOn h (hv.imp_left fun h => ne_zero_of_half (.inl h))
    exact ⟨(featureRead false (dfr2 s) ad).1 on, (featureRead true (dfr2 s) ad).1 on⟩
  case unreachable =>
    have off (reg : ImpdefReg) (hi : Bool) (v : Dword) :=
      (featureRead (reg := reg) hi v ad).2 (coreReadable_of_unreachable hr) hr
    have offNonzero (reg : ImpdefReg) (hi : Bool) (v w : Dword) :=
      (featureRead (reg := reg) hi v ad).2 (coreReadableNonzero_of_unreachable hr w) hr
    simp only [List.mem_cons, List.not_mem_nil, or_false] at hi
    rcases hi with rfl | rfl | rfl | rfl | rfl | rfl
    exacts [off _ _ _, off _ _ _, offNonzero _ _ _ _, offNonzero _ _ _ _, offNonzero _ _ _ _, offNonzero _ _ _ _]

end Sys2Proof.Proofs.Feature
end

section
/-!
The Software Lock and the OS Lock through their registers (`SoftwareLockAccess`, `OsLockAccess`).
-/

namespace Sys2Proof.Proofs.Locks

open Sys2Proof.Machine Sys2Proof.Safety Sys2Proof.Proofs.Ident Sys2Proof.Proofs.AgentRules

/-! ## The Software Lock -/

theorem edlsrValue_eq (ad : AddrDesc) (s : State) :
    edlsrValue ad s = if s.cfg.hasSoftwareLock = true ∧ ad.memoryMapped = true
      then 0#29 ++ 0b0#1 ++ BitVec.ofBool s.lock.slk ++ 0b1#1 else 0x00000000 := by
  simp only [edlsrValue, Bool.and_eq_true]
  split
  · cases s.lock.slk <;> rfl
  · rfl

/-- A write of EDLAR that the Core does not refuse. -/
theorem exec_wrEdlar_of_reachable {s : State} (h : Reachable s) (d : Word) (ad : AddrDesc) :
    exec (.wrEdlar d ad) s = .next (State.okWrite
      (if s.cfg.hasSoftwareLock && ad.memoryMapped then { s with lock := { s.lock with slk := d != lockKey } } else s)) := by
  simp only [exec, execWrEdlar]
  rw [writeReg_writeOnlyUnlocked _ ((coreOff_holds_iff s ad).2 h)]

/-- Settles O24: by the two interfaces and the clause `coreOff`. -/
theorem softwareLockAccess : Obligations.SoftwareLockAccess := by
  intro s d ad
  refine ⟨fun h hl hm => ?write, fun h hn => ?other, fun h => ⟨?writeError, ?readError⟩, fun h hl => ?read, fun h hl => ?absent,
    identRead_of rfl (edlsrValue_eq ad s)⟩
  case write =>
    have key : (d != lockKey) = decide (d ≠ 0xC5ACCE55) := Bool.eq_iff_iff.2 (by simp [lockKey])
    rw [exec_wrEdlar_of_reachable h, hl, hm, key]
    rfl
  case other =>
    have off : (s.cfg.hasSoftwareLock && ad.memoryMapped) = false := by rcases hn with hn | hn <;> simp [hn]
    rw [exec_wrEdlar_of_reachable h, off]
    rfl
  case writeError =>
    simp only [exec, execWrEdlar]
    rw [writeReg_error _ _ (not_coreOff h), raiseError_plain _ _ _ rfl]
  case readError =>
    simp only [exec, execRdEdlar, readValue]
    split <;> rw [readReg_error _ _ (not_coreOff h), raiseError_plain _ _ _ rfl]
  case read =>
    refine ⟨s.free32 .readWord, ?_⟩
    simp only [exec, execRdEdlar, hl, if_true]
    rw [readReg_writeOnlyUnlocked _ ((coreOff_holds_iff s ad).2 h)]
    rfl
  case absent =>
    simp only [exec, execRdEdlar, hl, Bool.false_eq_true, if_false, readValue]
    rw [readReg_readOnly _ ((coreOff_holds_iff s ad).2 h)]
    rfl

/-! ## The OS Lock -/

/-- OSLAR_EL1 is not refused where the access is allowed, or its prohibition is no ERROR (47 R771). -/
abbrev OslarAdmitted (s : State) (ad : AddrDesc) : Prop :=
  s.allowDebug ad = true ∨ (s.cfg.dbg.debugv8p2 = false ∧ s.cfg.opt.oslarErrorWhenDisallowed = false)

theorem oslar_holds_iff (s : State) (ad : AddrDesc) :
    ErrorClause.oslar.holds s ad = false ↔ CoreOn s ∧ OslarAdmitted s ad := by
  cases hl : s.doubleLock <;> cases hp : s.powered <;> cases ha : s.allowDebug ad <;>
    simp [ErrorClause.holds, CoreOn, OslarAdmitted, hl, hp, ha]

theorem not_oslar {s : State} {ad : AddrDesc} (h : ¬(CoreOn s ∧ OslarAdmitted s ad)) :
    ErrorClause.oslar.holds s ad = true :=
  Bool.not_eq_false _ ▸ fun hf => h ((oslar_holds_iff s ad).1 hf)

theorem raiseError_oslar_core {s : State} (h : ¬CoreOn s) (ad : AddrDesc) :
    s.raiseError ad .oslar = { s with response := .error } := by
  have : ErrorClause.oslar.soleCauseIsAllow s ad = false := by
    revert h
    cases hl : s.doubleLock <;> cases hp : s.powered <;> simp [ErrorClause.soleCauseIsAllow, CoreOn, hl, hp]
  simp [State.raiseError, this]

theorem raiseError_oslar_prohibited {s : State} {ad : AddrDesc} (h : CoreOn s) (ha : ¬OslarAdmitted s ad) :
    s.raiseError ad .oslar = { s with response := .error, sticky := { s.sticky with sdad := true } } := by
  have prohibited : s.allowDebug ad = false := Bool.not_eq_true _ ▸ fun h => ha (.inl h)
  have : ErrorClause.oslar.soleCauseIsAllow s ad = true := by
    simp [ErrorClause.soleCauseIsAllow, ErrorClause.namesOSLock, ErrorClause.namesAllow, h.1, h.2, prohibited]
  simp [State.raiseError, this]

/-- What a write of bit 0 to the OS Lock does (47 R773, 44 R499). -/
theorem writeOsLock_eq (s : State) (b : Bool) :
    s.writeOsLock b =
      { s with
        lock := { s.lock with oslk := b }
        ctl :=
          { s.ctl with
            edesr :=
              if s.lock.oslk = true ∧ b = false ∧
                (if s.cfg.dbg.doPD then s.env.osUnlockCatch else s.ctl.edecr.getLsbD 0) = true
              then s.ctl.edesr ||| 1 else s.ctl.edesr } } := by
  have enabled : s.osUnlockCatchEnabled = if s.cfg.dbg.doPD then s.env.osUnlockCatch else s.ctl.edecr.getLsbD 0 := by
    rw [State.osUnlockCatchEnabled, State.osuce]
    cases s.cfg.dbg.doPD <;> rfl
  have set (w : Word) : edesrSet w .osuc true = w ||| 1 := rfl
  simp only [State.writeOsLock, enabled, set, Bool.and_eq_true, Bool.not_eq_true', and_assoc]

/-- Settles O25: by the ladder of OSLAR_EL1, and by the write of PE software. -/
theorem osLockAccess : Obligations.OsLockAccess := by
  intro s d ad
  refine ⟨fun h ha hl => ?write, fun h ha hl => ?locked, fun h ha => ?read, fun h => ?off, fun h ha => ?prohibited,
    fun he v => ?pe⟩
  case write =>
    have done : exec (.wrOslar d ad) s = .next (s.writeOsLock (d.getLsbD 0)).okWrite :=
      congrArg _ (writeReg_writeOnly _ ((oslar_holds_iff s ad).2 ⟨h, ha⟩) hl)
    rw [done, writeOsLock_eq]
    rfl
  case locked => exact congrArg _ (writeReg_writeOnly_locked _ ((oslar_holds_iff s ad).2 ⟨h, ha⟩) hl)
  case read => exact ⟨_, congrArg _ (readReg_writeOnly _ ((oslar_holds_iff s ad).2 ⟨h, ha⟩))⟩
  case off =>
    have holds : ErrorClause.oslar.holds s ad = true := not_oslar fun hc => h hc.1
    exact ⟨congrArg _ ((writeReg_error _ _ holds).trans (raiseError_oslar_core h ad)),
      congrArg _ ((readReg_error _ _ holds).trans (raiseError_oslar_core h ad))⟩
  case prohibited =>
    have holds : ErrorClause.oslar.holds s ad = true := not_oslar fun hc => ha hc.2
    exact ⟨congrArg _ ((writeReg_error _ _ holds).trans (raiseError_oslar_prohibited h ha)),
      congrArg _ ((readReg_error _ _ holds).trans (raiseError_oslar_prohibited h ha))⟩
  case pe =>
    have stored : agentStep (.sysWrite .oslar v) s = (s.sysRegWritten .oslar v).settle (SysReg.written .oslar) :=
      stepSysWrite_of_untrapped he rfl (.inl rfl) v
    rw [stored]
    refine ⟨settles_sysRegWritten s .oslar v, ?_⟩
    rw [show s.sysRegWritten .oslar v = s.writeOsLock (v.getLsbD 0) from rfl, writeOsLock_eq]
    rfl

end Sys2Proof.Proofs.Locks
end

section
/-!
The Debug Communication Channel and EDITR (`DtrRxAccess`, `DtrTxAccess`, `DtrAccessWhileError`, `ItrAccess`).
-/

namespace Sys2Proof.Proofs.Channel

open Sys2Proof.Machine Sys2Proof.Safety Sys2Proof.Proofs.ReserveControl

/-! ## Modes -/

theorem memoryMode_of_normal {s : State} (h : NormalMode s) : s.memoryMode = false :=
  Bool.not_eq_true _ ▸ fun hm => h (Bool.and_eq_true _ _ ▸ hm)

theorem dtrBlocked_of_live {s : State} (h : DtrLive s) : s.dtrBlocked = false := by
  rcases h with h | h
  · rw [State.dtrBlocked, State.err, h]; rfl
  · rw [State.dtrBlocked, h]; exact Bool.and_false _

theorem dtrBlocked_of_error {s : State} (h : s.ctl.edscr.getLsbD 6 = true) (hc : s.cfg.opt.dtrErrAsWritten = false) :
    s.dtrBlocked = true := by
  rw [State.dtrBlocked, State.err, h, hc]; rfl

/-! ## Bits of EDSCR set by a mask -/

/-- To set bit `k` is to set the bits of the mask that holds `k` alone. -/
theorem setBit_true {n : Nat} (w : BitVec n) (k : Nat) : setBit w k true = w ||| (1#n <<< k) := if_pos rfl

theorem edscrRxOverrun_eq (w : Word) : edscrRxOverrun w = w ||| 0x08000040 := by
  rw [edscrRxOverrun, setBit_true, setBit_true, BitVec.or_assoc]; rfl

theorem edscrTxUnderrun_eq (w : Word) : edscrTxUnderrun w = w ||| 0x04000040 := by
  rw [edscrTxUnderrun, setBit_true, setBit_true, BitVec.or_assoc]; rfl

theorem edscrItrOverrun_eq (w : Word) : edscrItrOverrun w = w ||| 0x10000040 := by
  rw [edscrItrOverrun, setBit_true, setBit_true, BitVec.or_assoc]; rfl

theorem edscrRxAccepted_eq (w : Word) : edscrRxAccepted w = w ||| 0x40000000 := setBit_true w 30

theorem edscrTxTaken_eq (w : Word) : edscrTxTaken w = w &&& ~~~0x20000000 := setBit_false w 29

theorem edscrItrAccepted_eq (w : Word) : edscrItrAccepted w = w &&& ~~~0x01000000 := setBit_false w 24

/-! ## DBGDTRRX_EL0 -/

section Rx

variable {s : State} (d : Word)

theorem writeRx_of_blocked (hm : s.memoryMode = false) (hb : s.dtrBlocked = true) : writeRx d s = s := by
  simp only [writeRx, hm, hb, Bool.false_eq_true, if_false, if_true]

theorem writeRx_of_full (hm : s.memoryMode = false) (hb : s.dtrBlocked = false) (hf : s.ctl.edscr.getLsbD 30 = true) :
    writeRx d s = { s with ctl := { s.ctl with edscr := s.ctl.edscr ||| 0x08000040 } } := by
  simp only [writeRx, hm, hb, State.rxfull, hf, Bool.false_eq_true, if_false, if_true, State.mapEdscr, edscrRxOverrun_eq]

theorem writeRx_of_empty (hm : s.memoryMode = false) (hb : s.dtrBlocked = false) (hf : s.ctl.edscr.getLsbD 30 = false) :
    writeRx d s =
      { s with
        dcc := { s.dcc with dtrrx := d }
        ctl := { s.ctl with edscr := s.ctl.edscr ||| 0x40000000 } } := by
  simp only [writeRx, hm, hb, State.rxfull, hf, Bool.false_eq_true, if_false, State.mapEdscr, edscrRxAccepted_eq]

end Rx

/-- Settles O35: the write by the state of DTRRX, and the read, which outside Memory access mode shows DTRRX. -/
theorem dtrRxAccess : Obligations.DtrRxAccess := by
  intro s d ad hn
  have hm := memoryMode_of_normal hn
  refine ⟨fun hl hf => ?fill, fun hl hf => ?overrun, ?read⟩
  case fill => exact lockedWrite_of rfl (.inl rfl) (writeRx_of_empty d hm (dtrBlocked_of_live hl) hf)
  case overrun => exact lockedWrite_of rfl (.inl rfl) (writeRx_of_full d hm (dtrBlocked_of_live hl) hf)
  case read =>
    refine ⟨fun hu => ?_, fun hu => ?_⟩
    · simp only [exec, execRdDbgdtrrx]
      rw [readReg_readWrite _ ((locked_holds_iff s ad).2 hu), hm]
      rfl
    · simp only [exec, execRdDbgdtrrx]
      rw [readReg_error _ _ (not_locked hu), raiseError_plain _ _ _ rfl]

/-! ## DBGDTRTX_EL0 -/

section Tx

variable {s : State} {ad : AddrDesc}

/-- A read of DBGDTRTX_EL0 that the ladder admits. -/
theorem exec_rdDbgdtrtx (hp : Permitted s ad) :
    exec (.rdDbgdtrtx ad) s = .next
      (if s.softLock ad then s.okRead s.txValue
      else if s.memoryMode then s.memoryModeEffects.okRead (s.free32 .readWord)
      else (readTxFlags s).okRead s.txValue) :=
  guarded_read (i := .rdDbgdtrtx ad) rfl hp

theorem exec_rdDbgdtrtx_of_locked (hp : Permitted s ad) (hl : s.softLock ad = true) :
    exec (.rdDbgdtrtx ad) s = reads s s.txValue := by
  rw [exec_rdDbgdtrtx hp, if_pos hl]; rfl

theorem exec_rdDbgdtrtx_of_normal (hp : Permitted s ad) (hl : s.softLock ad = false) (hm : s.memoryMode = false) :
    exec (.rdDbgdtrtx ad) s = .next ((readTxFlags s).okRead s.txValue) := by
  rw [exec_rdDbgdtrtx hp, hl, hm]; rfl

theorem txValue_of_full (h : s.ctl.edscr.getLsbD 29 = true) : s.txValue = s.dcc.dtrtx := if_pos h

theorem readTxFlags_of_blocked (hb : s.dtrBlocked = true) : readTxFlags s = s := if_pos hb

theorem readTxFlags_of_full (hb : s.dtrBlocked = false) (hf : s.ctl.edscr.getLsbD 29 = true) :
    readTxFlags s = { s with ctl := { s.ctl with edscr := s.ctl.edscr &&& ~~~0x20000000 } } := by
  simp only [readTxFlags, hb, State.txfull, hf, Bool.false_eq_true, if_false, if_true, State.mapEdscr, edscrTxTaken_eq]

theorem readTxFlags_of_empty (hb : s.dtrBlocked = false) (hf : s.ctl.edscr.getLsbD 29 = false) :
    readTxFlags s = { s with ctl := { s.ctl with edscr := s.ctl.edscr ||| 0x04000040 } } := by
  simp only [readTxFlags, hb, State.txfull, hf, Bool.false_eq_true, if_false, State.mapEdscr, edscrTxUnderrun_eq]

end Tx

/-- Settles O36: the read by the lock and the state of DTRTX, and the write, which stores. -/
theorem dtrTxAccess : Obligations.DtrTxAccess := by
  intro s d ad hn
  have hm := memoryMode_of_normal hn
  refine ⟨fun hp hl live hf => ?take, fun hp hl live hf => ?underrun, fun hp hl hf => ?lockedFull, fun hp hl hf => ?lockedEmpty,
    fun hp hl => ?write, fun hp hl => ?lockedWrite, guardedErrors_read (k := .readWrite) rfl,
    guardedErrors_write (k := .readWrite) rfl⟩
  case take =>
    rw [exec_rdDbgdtrtx_of_normal hp hl hm, readTxFlags_of_full (dtrBlocked_of_live live) hf, txValue_of_full hf]; rfl
  case underrun =>
    refine ⟨s.txValue, ?_⟩
    rw [exec_rdDbgdtrtx_of_normal hp hl hm, readTxFlags_of_empty (dtrBlocked_of_live live) hf]; rfl
  case lockedFull => rw [exec_rdDbgdtrtx_of_locked hp hl, txValue_of_full hf]
  case lockedEmpty => exact ⟨s.txValue, exec_rdDbgdtrtx_of_locked hp hl⟩
  case write =>
    rw [guarded_write (i := .wrDbgdtrtx d ad) rfl hp hl, hm]; rfl
  case lockedWrite => exact guarded_write_locked (i := .wrDbgdtrtx d ad) rfl hp hl

/-- Settles O37: while ERR blocks the DTR accesses, neither changes a flag or a register. -/
theorem dtrAccessWhileError : Obligations.DtrAccessWhileError := by
  intro s d ad hn herr hc
  have hm := memoryMode_of_normal hn
  have blocked := dtrBlocked_of_error herr hc
  have read (hp : Permitted s ad) : exec (.rdDbgdtrtx ad) s = reads s s.txValue := by
    cases hl : s.softLock ad
    · rw [exec_rdDbgdtrtx_of_normal hp hl hm, readTxFlags_of_blocked blocked]; rfl
    · exact exec_rdDbgdtrtx_of_locked hp hl
  refine ⟨fun hu => ?write, fun hp hf => ?full, fun hp _ => ⟨_, read hp⟩⟩
  case write =>
    have ignored : LockedWrite (.wrDbgdtrrx d ad) s s := lockedWrite_of rfl (.inl rfl) (writeRx_of_blocked d hm blocked)
    cases hl : s.softLock ad
    · exact ignored.1 hu hl
    · exact ignored.2.1 hu hl
  case full => rw [read hp, txValue_of_full hf]

/-! ## EDITR -/

section Itr

variable {s : State} (d : Word)

theorem writeItr_of_nonDebug (hh : s.hal.halted = false) : writeItr d s = s := by
  simp only [writeItr, hh, Bool.not_false, if_true]

theorem ma_of_normal (hn : NormalMode s) (hh : s.hal.halted = true) : s.ma = false :=
  Bool.not_eq_true _ ▸ fun hm => hn ⟨hh, hm⟩

theorem writeItr_of_error (hh : s.hal.halted = true) (hm : s.ma = false) (he : s.ctl.edscr.getLsbD 6 = true) :
    writeItr d s = s := by
  simp only [writeItr, hh, hm, State.err, he, Bool.not_true, Bool.false_eq_true, if_false, if_true]

theorem writeItr_of_empty (hh : s.hal.halted = true) (hm : s.ma = false) (he : s.ctl.edscr.getLsbD 6 = false)
    (hi : s.ctl.edscr.getLsbD 24 = true) :
    writeItr d s =
      { s with
        dcc := { s.dcc with itr := d, memoryOp := false }
        ctl := { s.ctl with edscr := s.ctl.edscr &&& ~~~0x01000000 } } := by
  simp only [writeItr, hh, hm, State.err, he, State.ite, hi, Bool.not_true, Bool.false_eq_true, if_false, if_true,
    State.mapEdscr, edscrItrAccepted_eq]

theorem writeItr_of_full (hh : s.hal.halted = true) (hm : s.ma = false) (he : s.ctl.edscr.getLsbD 6 = false)
    (hi : s.ctl.edscr.getLsbD 24 = false) :
    writeItr d s = { s with ctl := { s.ctl with edscr := s.ctl.edscr ||| 0x10000040 } } := by
  simp only [writeItr, hh, hm, State.err, he, State.ite, hi, Bool.not_true, Bool.false_eq_true, if_false, State.mapEdscr,
    edscrItrOverrun_eq]

end Itr

/-- Settles O38: the write by the halting state, ERR and ITE; the read is that of a write-only register. -/
theorem itrAccess : Obligations.ItrAccess := by
  intro s d ad hn
  obtain ⟨completes, refused⟩ := lockedRead_of_writeOnly (i := .rdEditr ad) (s := s) rfl
  refine ⟨fun hh => ?nonDebug, fun hh he => ?error, fun hh he hi => ?fill, fun hh he hi => ?overrun,
    fun hu => ⟨_, completes hu⟩, refused⟩
  case nonDebug => exact lockedWrite_of rfl (.inr rfl) (writeItr_of_nonDebug d hh)
  case error => exact lockedWrite_of rfl (.inr rfl) (writeItr_of_error d hh (ma_of_normal hn hh) he)
  case fill => exact lockedWrite_of rfl (.inr rfl) (writeItr_of_empty d hh (ma_of_normal hn hh) he hi)
  case overrun => exact lockedWrite_of rfl (.inr rfl) (writeItr_of_full d hh (ma_of_normal hn hh) he hi)

end Sys2Proof.Proofs.Channel
end

section
/-!
The event control registers, EDPRCR and EDSCR2 (`ExceptionCatchControl`, `ExecutionControl`, `EventStatus`,
`WatchpointSyndromeAndAddress`, `IntegrationAndAuxiliaryControl`, `PowerControl`, `StatusControl2`).
-/

namespace Sys2Proof.Proofs.EventControl

open Sys2Proof.Machine Sys2Proof.Safety

/-! ## Stored words -/

/-- A register whose RES0 positions hold nothing shows its fields. -/
theorem showsFields_readStored {field : Nat → Bool} {fields raw : Word}
    (hf : ∀ k, k < 32 → fields.getLsbD k = field k) : ShowsFields field raw (readStored false fields 0 raw) := by
  intro k hk
  rw [readStored_getLsbD, hf k hk]
  cases field k <;> simp

/-- A write of a register whose RES0 positions hold nothing stores its fields. -/
theorem writesWord_writeStored {field : Nat → Bool} {fields reserved raw d : Word}
    (hf : ∀ k, k < 32 → fields.getLsbD k = field k) : WritesWord field d raw (writeStored false fields reserved raw d) := by
  intro k hk
  rw [writeStored_getLsbD, hf k hk]

/-! ## EDECCR -/

theorem edeccrField_eq_false {c : Config} {k : Nat} (h : k = 0 ∨ k = 4 ∨ k = 16) : edeccrField c k = false := by
  rcases h with rfl | rfl | rfl <;> rfl

/-- Which Exception Catch debug events EDECCR enables (44 R473 to R477). -/
theorem exceptionCatchEnabled_eq (s : State) (el : BitVec 2) (ss : SecState) (kind : CatchKind) :
    s.exceptionCatchEnabled el ss kind = catchEnabled s.cfg s.ctl.edeccr el ss kind := by
  have levels : el = 0 ∨ el = 1 ∨ el = 2 ∨ el = 3 := by revert el; decide
  simp only [State.exceptionCatchEnabled]
  rcases levels with rfl | rfl | rfl | rfl <;> cases ss <;>
    simp (disch := decide) [catchBits_eq, catchEnabled, catchBitsOf, edeccrField_eq_false] <;>
    cases kind <;> cases hv : s.cfg.dbg.debugv8p2 <;> simp [catches, catchesCoarse, edeccrField, hv]

theorem writesWord_edeccr {s : State} (hp : PlainStorage s) (d : Word) :
    WritesWord (edeccrField s.cfg) d s.ctl.edeccr (writeEdeccrFields d s).ctl.edeccr := by
  show WritesWord _ d _ (writeStored s.cfg.opt.res0Storage (edeccrFields s.cfg) (~~~edeccrFields s.cfg) s.ctl.edeccr d)
  rw [hp]
  exact writesWord_writeStored (edeccrFields_getLsbD s.cfg)

/-- Settles O40: EDECCR stores its fields, and `catchEnabled` is the table of 44 R473 to R477. -/
theorem exceptionCatchControl : Obligations.ExceptionCatchControl := by
  intro s d ad el ss kind
  refine ⟨fun hp => ⟨⟨edeccrValue s, ?read, ?shows⟩, ⟨(writeEdeccrFields d s).ctl.edeccr, ?write, writesWord_edeccr hp d⟩⟩,
    exceptionCatchEnabled_eq s el ss kind⟩
  case read => exact lockedRead_of (k := .readWrite) rfl (.inr (.inl rfl)) rfl
  case shows =>
    rw [edeccrValue, hp]
    exact showsFields_readStored (edeccrFields_getLsbD s.cfg)
  case write => exact lockedWrite_of rfl (.inl rfl) rfl

/-! ## Registers under the clauses `coreOff` and `core` -/

section Ladders

variable {i : Instr} {s : State} {e : ErrorClause}

/-- A read of a register that can be written: under the clause `e` it is refused, and otherwise shows its value. -/
theorem readWrite_read {f : State → Word} (h : exec i s = .next (readValue e .readWrite i.ad s f)) :
    (e.holds s i.ad = false → exec i s = reads s (f s)) ∧
    (e.holds s i.ad = true → e.namesAllow = false → exec i s = errors s) := by
  refine ⟨fun he => ?_, fun he hn => ?_⟩
  · rw [h, readValue, readReg_readWrite _ he]; rfl
  · rw [h, readValue, readReg_error _ _ he, raiseError_plain _ _ _ hn]

/-- A write of such a register: refused, ignored under the Software Lock, or stored. -/
theorem readWrite_write {f : State → State} (h : exec i s = .next (writeReg e .readWrite i.ad s f)) :
    (e.holds s i.ad = false → s.softLock i.ad = false → exec i s = .next (f s).okWrite) ∧
    (e.holds s i.ad = false → s.softLock i.ad = true → exec i s = accepts s) ∧
    (e.holds s i.ad = true → e.namesAllow = false → exec i s = errors s) := by
  refine ⟨fun he hl => ?_, fun he hl => ?_, fun he hn => ?_⟩
  · rw [h, writeReg_readWrite _ he hl]
  · rw [h, writeReg_readWrite_locked _ he hl]; rfl
  · rw [h, writeReg_error _ _ he, raiseError_plain _ _ _ hn]

end Ladders

/-! ## EDECR -/

theorem edecrValue_getLsbD {s : State} (hp : PlainStorage s) {k : Nat} (hk : k < 32)
    (h : s.powered = true ∨ edecrCoreField s.cfg k = false) :
    (edecrValue s).getLsbD k = (edecrField s.cfg k && s.ctl.edecr.getLsbD k) := by
  have shown := showsFields_readStored (raw := s.ctl.edecr) (edecrFields_getLsbD s.cfg) k hk
  simp only [edecrValue, hp]
  split
  · exact shown
  · rename_i off
    rw [merge_getLsbD, edecrCoreFields_getLsbD _ _ hk, h.resolve_left off]
    exact shown

theorem writesWord_edecr {s : State} (hp : PlainStorage s) (d : Word) :
    WritesWord (edecrField s.cfg) d s.ctl.edecr (writeEdecrFields d s).ctl.edecr := by
  show WritesWord _ d _ (writeStored s.cfg.opt.res0Storage (edecrFields s.cfg) (~~~edecrFields s.cfg) s.ctl.edecr d)
  rw [hp]
  exact writesWord_writeStored (edecrFields_getLsbD s.cfg)

/-- Settles O41: EDECR under the clause `coreOff`. -/
theorem executionControl : Obligations.ExecutionControl := by
  intro s d ad hp
  obtain ⟨shown, unread⟩ := readWrite_read (i := .rdEdecr ad) (s := s) rfl
  obtain ⟨stored, ignored, unwritten⟩ := readWrite_write (i := .wrEdecr d ad) (s := s) rfl
  have admits (h : Reachable s) := (coreOff_holds_iff s ad).2 h
  exact ⟨fun h => ⟨edecrValue s, shown (admits h), fun k hk => edecrValue_getLsbD hp hk⟩,
    fun h hl => ⟨(writeEdecrFields d s).ctl.edecr, stored (admits h) hl, writesWord_edecr hp d⟩,
    fun h hl => ignored (admits h) hl, fun h => ⟨unread (not_coreOff h) rfl, unwritten (not_coreOff h) rfl⟩⟩

/-! ## EDESR -/

theorem writeEdesrBits_getLsbD {s : State} (hp : PlainStorage s) (d : Word) {k : Nat} (hk : k < 32) :
    (writeEdesrBits d s).ctl.edesr.getLsbD k = (s.ctl.edesr.getLsbD k && !(edesrField s.cfg k && d.getLsbD k)) := by
  simp only [writeEdesrBits, State.mapEdesr_ctl, hp, merge_getLsbD, maskIf_getLsbD, Bool.false_and, Bool.false_eq_true,
    if_false, BitVec.getLsbD_and, BitVec.getLsbD_not, hk, decide_true, Bool.true_and, edesrFields_getLsbD _ _ hk,
    Bool.and_comm (d.getLsbD k)]

/-- Settles O42: EDESR under the clause `core`. -/
theorem eventStatus : Obligations.EventStatus := by
  intro s d ad hp
  obtain ⟨shown, unread⟩ := readWrite_read (i := .rdEdesr ad) (s := s) rfl
  obtain ⟨stored, ignored, unwritten⟩ := readWrite_write (i := .wrEdesr d ad) (s := s) rfl
  have admits (h : CoreOn s) := (core_holds_iff s ad).2 h
  refine ⟨fun h => ⟨edesrValue s, shown (admits h), ?shows⟩,
    fun h hl => ⟨(writeEdesrBits d s).ctl.edesr, stored (admits h) hl, fun k hk => writeEdesrBits_getLsbD hp d hk⟩,
    fun h hl => ignored (admits h) hl, fun h => ⟨unread (not_core h) rfl, unwritten (not_core h) rfl⟩⟩
  case shows =>
    rw [edesrValue, hp]
    exact showsFields_readStored (edesrFields_getLsbD s.cfg)

/-! ## EDSCR2 -/

/-- Settles O52: EDSCR2, where it is present, under the clause `locked` and past the Software Lock. -/
theorem statusControl2 : Obligations.StatusControl2 := by
  intro s d ad hp h
  have present : s.cfg.hasScr2 = true := by rcases h with h | h <;> simp [Config.hasScr2, h]
  have read : exec (.rdEdscr2 ad) s = .next (readValue .locked .readWriteUnlocked ad s edscr2Value) := by
    simp only [exec, execRdEdscr2, present, if_true]
  have write : exec (.wrEdscr2 d ad) s = .next (writeReg .locked .readWriteUnlocked ad s (writeEdscr2Fields d)) := by
    simp only [exec, execWrEdscr2, present, if_true]
  refine ⟨⟨edscr2Value s, lockedRead_of read (.inr (.inr rfl)) rfl, ?shows⟩,
    fun hu => ⟨(writeEdscr2Fields d s).ctl.edscr2, ?write, ?stores⟩, fun hu => ?error⟩
  case shows =>
    rw [edscr2Value, hp]
    exact showsFields_readStored (edscr2Fields_getLsbD s.cfg)
  case write => rw [write, writeReg_readWriteUnlocked _ ((locked_holds_iff s ad).2 hu)]; rfl
  case stores =>
    show WritesWord _ d _ (writeStored s.cfg.opt.res0Storage (edscr2Fields s.cfg) (~~~edscr2Fields s.cfg) s.ctl.edscr2 d)
    rw [hp]
    exact writesWord_writeStored (edscr2Fields_getLsbD s.cfg)
  case error => rw [write, writeReg_error _ _ (not_locked hu), raiseError_plain _ _ _ rfl]

/-! ## EDHSR and EDWAR -/

section Watchpoint

variable {s : State}

theorem haltedByWatchpoint_iff (s : State) :
    s.haltedByWatchpoint = true ↔ s.hal.halted = true ∧ s.ctl.edscr.extractLsb' 0 6 = 0b101011#6 := by
  rw [State.haltedByWatchpoint, Bool.and_eq_true]
  exact and_congr_right' (decide_eq_true_iff (p := s.status = statusWatchpoint))

theorem edhsrValue_of_wptv (h : s.haltedByWatchpoint = true) (hw : s.hal.edhsr.getLsbD 17 = true) :
    edhsrValue s = s.hal.edhsr := by
  simp only [edhsrValue, h, hw, Bool.not_true, Bool.false_eq_true, if_false, if_true]

/-- While the PE is halted by a watchpoint EDHSR shows the syndrome, but perhaps for WPT. -/
theorem edhsrValue_getLsbD (h : s.haltedByWatchpoint = true) {k : Nat} (hk : k < 18 ∨ 23 < k) :
    (edhsrValue s).getLsbD k = s.hal.edhsr.getLsbD k := by
  simp only [edhsrValue, h, Bool.not_true, Bool.false_eq_true, if_false]
  split
  · rfl
  · rw [merge_getLsbD, dmask_getLsbD _ _ _ (by decide), if_neg]
    simp; omega

theorem edwarValue_of_valid (h : s.haltedByWatchpoint = true) (hv : s.fnv = false) :
    edwarValue s = if s.hal.edwarAA32 then setHalf true s.hal.edwar (s.free32 .readWord) else s.hal.edwar := by
  simp only [edwarValue, h, hv, Bool.not_false, Bool.and_self, if_true]

theorem fnv_eq_false (h : s.cfg.dbg.edhsr = false ∨ s.hal.edhsr.getLsbD 10 = false) : s.fnv = false := by
  rcases h with h | h
  · rw [State.fnv, h]; rfl
  · rw [State.fnv, h]; exact Bool.and_false _

theorem loHalf_setHalf_true (v : Dword) (d : Word) : loHalf (setHalf true v d) = loHalf v :=
  BitVec.extractLsb'_append_eq_right

theorem edhsr_read (hc : s.cfg.dbg.edhsr = true) (ad : AddrDesc) :
    LockedRead (.rdEdhsrLo ad) s (loHalf (edhsrValue s)) ∧ LockedRead (.rdEdhsrHi ad) s (hiHalf (edhsrValue s)) := by
  have read (hi : Bool) : readEdhsr hi ad s = readValue .locked .readOnly ad s fun t => halfOf hi (edhsrValue t) := if_pos hc
  exact ⟨lockedRead_of (congrArg _ (read false)) (.inl rfl) rfl, lockedRead_of (congrArg _ (read true)) (.inl rfl) rfl⟩

/-- A write of a read-only register under the clause `locked`. -/
theorem readOnly_write {i : Instr} (h : exec i s = .next (writeReg .locked .readOnly i.ad s id)) :
    (Unlocked s → exec i s = accepts s) ∧ (¬Unlocked s → exec i s = errors s) := by
  refine ⟨fun hu => ?_, fun hu => ?_⟩
  · rw [h, writeReg_readOnly _ ((locked_holds_iff s i.ad).2 hu)]; rfl
  · rw [h, writeReg_error _ _ (not_locked hu), raiseError_plain _ _ _ rfl]

end Watchpoint

/-- Settles O43: both registers are read under the clause `locked`, and what they show by the halting state. -/
theorem watchpointSyndromeAndAddress : Obligations.WatchpointSyndromeAndAddress := by
  intro s d ad
  have edwarLo : LockedRead (.rdEdwarLo ad) s (loHalf (edwarValue s)) := lockedRead_of rfl (.inl rfl) rfl
  have edwarHi : LockedRead (.rdEdwarHi ad) s (hiHalf (edwarValue s)) := lockedRead_of rfl (.inl rfl) rfl
  have writeLo := readOnly_write (i := .wrEdwarLo d ad) (s := s) rfl
  have writeHi := readOnly_write (i := .wrEdwarHi d ad) (s := s) rfl
  refine ⟨fun hc => ?edhsr, fun hb hv => ?edwar, ⟨_, edwarLo⟩, ⟨_, edwarHi⟩, fun hu => ⟨writeLo.1 hu, writeHi.1 hu⟩,
    fun hu => ⟨writeLo.2 hu, writeHi.2 hu⟩⟩
  case edhsr =>
    obtain ⟨lo, hi⟩ := edhsr_read hc ad
    have write : writeEdhsr ad s = writeReg .locked .readOnly ad s id := if_pos hc
    have writeLo := readOnly_write (i := .wrEdhsrLo d ad) (s := s) (congrArg Host.Outcome.next write)
    have writeHi := readOnly_write (i := .wrEdhsrHi d ad) (s := s) (congrArg Host.Outcome.next write)
    refine ⟨fun hb hw => ?wptv, fun hb => ⟨_, lo, fun k hk hw => ?others⟩, fun hb => ?high, ⟨_, lo⟩, ⟨_, hi⟩,
      fun hu => ⟨writeLo.1 hu, writeHi.1 hu⟩, fun hu => ⟨writeLo.2 hu, writeHi.2 hu⟩⟩
    case wptv => rwa [edhsrValue_of_wptv ((haltedByWatchpoint_iff s).2 hb) hw] at lo
    case others =>
      rw [loHalf_getLsbD, decide_eq_true hk, Bool.true_and]
      exact edhsrValue_getLsbD ((haltedByWatchpoint_iff s).2 hb) hw
    case high =>
      have same : hiHalf (edhsrValue s) = hiHalf s.hal.edhsr := by
        apply BitVec.eq_of_getLsbD_eq
        intro k hk
        rw [hiHalf_getLsbD, hiHalf_getLsbD, edhsrValue_getLsbD ((haltedByWatchpoint_iff s).2 hb) (.inr (by omega))]
      rwa [same] at hi
  case edwar =>
    have value := edwarValue_of_valid ((haltedByWatchpoint_iff s).2 hb) (fnv_eq_false hv)
    refine ⟨?_, fun h64 => ?_⟩
    · have low : loHalf (edwarValue s) = loHalf s.hal.edwar := by
        rw [value]
        split
        · exact loHalf_setHalf_true _ _
        · rfl
      rwa [low] at edwarLo
    · rw [value, h64] at edwarHi
      exact edwarHi

/-! ## EDITCTRL and EDACR -/

section Optional

variable {s : State}

theorem ladderImpdefRW_of_unlocked (h : Unlocked s) (ad : AddrDesc) (reg : ImpdefReg) :
    ladderImpdefRW s ad reg = if s.softLock ad then .ro else .rw := by
  simp only [ladderImpdefRW, h.1.1, h.1.2, h.2, Bool.not_true, Bool.or_self, Bool.false_eq_true, if_false]

/-- A read that neither faults nor is write-only shows the register. -/
theorem readBy_roOrRw (b : Bool) (e : ErrorClause) (ad : AddrDesc) (k : State → State) :
    readBy (if b then .ro else .rw) e ad s k = k s := by
  cases b <;> rfl

theorem editctrlValue_eq (hp : PlainStorage s) : editctrlValue s = 0#31 ++ BitVec.ofBool (s.ctl.editctrl.getLsbD 0) := by
  apply BitVec.eq_of_getLsbD_eq
  intro k hk
  rw [editctrlValue, hp, readStored_getLsbD]
  refine Eq.trans ?_ (BitVec.getLsbD_append (x := 0#31) (y := BitVec.ofBool (s.ctl.editctrl.getLsbD 0)) (i := k)).symm
  rcases k with _ | k
  · simp
  · simp

/-- The word EDITCTRL holds after a write. -/
theorem writesWord_editctrl (raw d : Word) :
    WritesWord (fun k => decide (k = 0)) d raw (writeStored false 1 (~~~1) raw d) := by
  refine writesWord_writeStored fun k _ => ?_
  rw [show (1 : Word) = 1#32 from rfl, BitVec.getLsbD_one]
  simp

theorem acrAccessible_of_reached {ad : AddrDesc} (hd : s.cfg.dbg.doPD = false) (hm : ad.memoryMapped = false)
    (h : s.osLock = true ∨ s.powered = false) : s.acrAccessible ad = s.cfg.has.edacrPreserved := by
  have : (s.osLock || !s.powered) = true := by simpa using h
  simp [State.acrAccessible, hd, hm, this, maskIf]

end Optional

/-- Settles O44: both ladders end in `ladderImpdefRW`; of EDACR the preserved bits are reached past it. -/
theorem integrationAndAuxiliaryControl : Obligations.IntegrationAndAuxiliaryControl := by
  refine ⟨fun s d ad hp hu => ⟨fun hc => ?editctrl, fun hc => ?edacr⟩, fun s d ad hc hd hpr hm hx => ?reached⟩
  case editctrl =>
    have read : exec (.rdEditctrl ad) s =
        .next (readBy (ladderImpdefRW s ad .editctrl) .coreOff ad s fun t => t.okRead (editctrlValue t)) :=
      congrArg Host.Outcome.next (if_pos hc)
    have write : exec (.wrEditctrl d ad) s =
        .next (writeBy (ladderImpdefRW s ad .editctrl) .coreOff ad s fun t =>
          { t with ctl :=
            { t.ctl with editctrl := writeStored t.cfg.opt.res0Storage 1 (~~~1) t.ctl.editctrl d } }) :=
      congrArg Host.Outcome.next (if_pos hc)
    rw [ladderImpdefRW_of_unlocked hu] at read write
    refine ⟨?_, fun hl => ⟨writeStored false 1 (~~~1) s.ctl.editctrl d, ?_, writesWord_editctrl _ d⟩, fun hl => ?_⟩
    · rw [read, readBy_roOrRw, editctrlValue_eq hp]; rfl
    · rw [write, hl]
      show Host.Outcome.next (State.okWrite { s with ctl := { s.ctl with
        editctrl := writeStored s.cfg.opt.res0Storage 1 (~~~1) s.ctl.editctrl d } }) = _
      rw [hp]; rfl
    · rw [write, hl]; rfl
  case edacr =>
    have read : exec (.rdEdacr ad) s = .next (readEdacr ad s) := congrArg Host.Outcome.next (if_pos hc)
    have write : exec (.wrEdacr d ad) s = .next (writeEdacr d ad s) := congrArg Host.Outcome.next (if_pos hc)
    have beside := acrAccessible_of_unlocked hu ad
    rw [readEdacr, if_pos beside, ladderImpdefRW_of_unlocked hu] at read
    rw [writeEdacr, if_pos beside, ladderImpdefRW_of_unlocked hu] at write
    refine ⟨?_, fun hl => ?_, fun hl => ?_⟩
    · rw [read, readBy_roOrRw]; rfl
    · rw [write, hl]; rfl
    · rw [write, hl]; rfl
  case reached =>
    have bits : s.acrAccessible ad = s.cfg.has.edacrPreserved := acrAccessible_of_reached hd hm hx
    obtain ⟨v, read, shown⟩ := readEdacr_of_reached (s := s) (ad := ad) (bits ▸ hpr)
    obtain ⟨w, write, stored, others⟩ := writeEdacr_of_reached (s := s) (ad := ad) d (bits ▸ hpr)
    rw [bits] at shown stored others
    exact ⟨⟨v, congrArg Host.Outcome.next ((if_pos hc).trans read), shown⟩,
      ⟨w, congrArg Host.Outcome.next ((if_pos hc).trans write), stored, others⟩⟩

/-! ## EDPRCR -/

section Power

variable {s : State}

theorem npdUnknown_iff (s : State) :
    s.npdUnknown = true ↔
      s.osLock = true ∨ s.cfg.dbg.doPD = false ∧ (s.powered = false ∨ s.doubleLock = true) := by
  simp [State.npdUnknown]

theorem corepurq_eq (s : State) : s.corepurq = (!s.cfg.dbg.doPD && s.ctl.edprcr.getLsbD 3) := rfl

/-- EDPRCR shows COREPURQ and CORENPDRQ, the second where it is in reach. -/
theorem edprcrValue_getLsbD (hp : PlainStorage s) {k : Nat} (hk : k < 32) (h0 : k ≠ 0 ∨ s.npdUnknown = false) :
    (edprcrValue s).getLsbD k =
      ((decide (k = 3) && s.corepurq) || (decide (k = 0) && s.ctl.edprcr.getLsbD 0)) := by
  have reach : ∀ u : Bool, (decide (k = 0) && (if s.npdUnknown then u else s.corenpdrq)) =
      (decide (k = 0) && s.ctl.edprcr.getLsbD 0) := by
    intro u
    rcases h0 with h0 | h0
    · rw [decide_eq_false h0]; rfl
    · rw [h0]; rfl
  simp only [edprcrValue, BitVec.getLsbD_or, bitAt_getLsbD, hk, true_and, hp, Bool.false_eq_true, if_false,
    show (0 : Word).getLsbD k = false from BitVec.getLsbD_zero, Bool.or_false, ← reach ((s.free32 .prcr).getLsbD 0)]
  rw [Bool.and_comm, Bool.and_comm (decide (k = 0))]

theorem writesWord_edprcr (hp : PlainStorage s) (ad : AddrDesc) (d : Word) :
    WritesWord (fun k => (decide (k = 3) && !s.cfg.dbg.doPD) || (decide (k = 0) && !s.npdUnknown)) d s.ctl.edprcr
      (writeEdprcrFields ad d s).ctl.edprcr := by
  intro k hk
  have mask : decide (3 ≤ k ∧ k - 3 < 1) = decide (k = 3) ∧ decide (0 ≤ k ∧ k - 0 < 1) = decide (k = 0) :=
    ⟨decide_eq_decide.2 (by omega), decide_eq_decide.2 (by omega)⟩
  simp only [writeEdprcrFields, merge_getLsbD, BitVec.getLsbD_or, maskIf_getLsbD, maskAt_getLsbD, hk, true_and, mask,
    show s.cfg.opt.res0Storage = false from hp, Bool.false_and, Bool.or_false, Bool.and_comm (decide _)]

/-- The authentication predicates that CWRR asks for (46 R624). -/
def admitsWarmReset (c : Config) (a : Auth) : Bool := if c.pe.secureImpl then a.secureInvasive else a.invasive

theorem cwrrIgnored_eq_false_iff (s : State) (ad : AddrDesc) :
    s.cwrrIgnored ad = false ↔
      ¬(s.cfg.sys.rme = true ∨ s.osLock = true ∨ s.softLock ad = true ∨
        s.cfg.dbg.doPD = false ∧ (s.powered = false ∨ s.doubleLock = true)) ∧
      admitsWarmReset s.cfg s.authSeen = true := by
  simp only [State.cwrrIgnored, admitsWarmReset, Bool.or_eq_false_iff, Bool.and_eq_false_iff]
  cases s.cfg.pe.secureImpl <;> cases s.cfg.dbg.doPD <;> simp <;> tauto

/-- A write of EDPRCR remembers a Warm reset request that nothing listed ignores (46 R624, R631). -/
theorem warmResetRequest_iff (s : State) (ad : AddrDesc) (d : Word) :
    (writeEdprcrFields ad d s).power.warmResetRequest = true ↔
      s.power.warmResetRequest = true ∨
        ((d.getLsbD 1 = true ∧ s.cfg.opt.cwrrExtent ≠ .ignored) ∧ s.cwrrIgnored ad = false) := by
  simp only [writeEdprcrFields, Bool.or_eq_true, Bool.and_eq_true, Bool.not_eq_true', bne_iff_ne]
  tauto

end Power

/-- Settles O45: EDPRCR under the clause `coreOff`. -/
theorem powerControl : Obligations.PowerControl := by
  intro s d ad hp off npdUnknown admits asks
  obtain ⟨shown, unread⟩ := readWrite_read (i := .rdEdprcr ad) (s := s) rfl
  obtain ⟨stored, ignored, unwritten⟩ := readWrite_write (i := .wrEdprcr d ad) (s := s) rfl
  have reachable (h : Reachable s) := (coreOff_holds_iff s ad).2 h
  have unknown : (!s.npdUnknown) = decide (¬npdUnknown) := by
    rw [decide_not]
    exact congrArg _ (Bool.eq_iff_iff.2 ((npdUnknown_iff s).trans decide_eq_true_iff.symm))
  refine ⟨fun h => ⟨edprcrValue s, shown (reachable h), fun k hk h0 => ?zeros, fun hn => ?npd⟩,
    fun h hl => ⟨(writeEdprcrFields ad d s).ctl.edprcr, (writeEdprcrFields ad d s).power.warmResetRequest,
      stored (reachable h) hl, ?fields, s.authSeen, authSeen_mem s, ?request⟩,
    fun h hl => ignored (reachable h) hl, fun h => ⟨unread (not_coreOff h) rfl, unwritten (not_coreOff h) rfl⟩⟩
  case zeros =>
    rw [edprcrValue_getLsbD hp hk (.inl h0), decide_eq_false h0, corepurq_eq, Bool.false_and, Bool.or_false, Bool.and_assoc]
  case npd =>
    have reach : s.npdUnknown = false := Bool.eq_false_iff.2 fun hx => hn ((npdUnknown_iff s).1 hx)
    rw [edprcrValue_getLsbD hp (by decide) (.inr reach)]; rfl
  case fields =>
    rw [← unknown]
    exact writesWord_edprcr hp ad d
  case request => exact (warmResetRequest_iff s ad d).trans (or_congr_right (and_congr_right' (cwrrIgnored_eq_false_iff s ad)))

end Sys2Proof.Proofs.EventControl
end

section
/-!
The breakpoint and watchpoint registers: what a write stores and a read shows, for the debugger and for PE software
(`BreakpointControl`, `WatchpointControl`, `ControlHighWords`, `BreakpointValueWrite`, `BreakpointValueRead`,
`WatchpointValueWords`).
-/

namespace Sys2Proof.Proofs.ArrayRegister

open Sys2Proof.Machine Sys2Proof.Safety Sys2Proof.Proofs.AgentRules

/-! ## Halves of a doubleword -/

theorem setHalf_hiHalf (v : Dword) : setHalf true v (hiHalf v) = v := by
  apply BitVec.eq_of_getLsbD_eq
  intro k hk
  rw [setHalf_getLsbD _ _ _ _ hk]
  split
  · rename_i h
    have h : 32 ≤ k := of_decide_eq_true h.symm
    rw [hiHalf_getLsbD, decide_eq_true (by omega), Bool.true_and]
    congr 1; omega
  · rfl

theorem loHalf_append (a b : Word) : loHalf (a ++ b) = b := BitVec.extractLsb'_append_eq_right

/-- The low word of a register whose fields are `fields`: a write stores these. -/
theorem writesHalf_setHalf_writeStored {field : Nat → Bool} {fields : Word} (hf : ∀ k, k < 32 → fields.getLsbD k = field k)
    (reserved : Word) (old : Dword) (d : Word) :
    WritesHalf (fun k => decide (k < 32) && field k) false d old
      (setHalf false old (writeStored false fields reserved (loHalf old) d)) := by
  intro k hk
  rw [setHalf_getLsbD _ _ _ _ hk]
  by_cases h : k < 32
  · have low : ¬32 ≤ k := by omega
    simp only [h, low, Nat.mod_eq_of_lt h, writeStored_getLsbD, hf k h, loHalf_getLsbD, decide_true, decide_false,
      Bool.true_and, Bool.and_true, if_true]
  · have high : 32 ≤ k := by omega
    simp only [h, high, decide_true, decide_false, Bool.false_and, Bool.false_eq_true, if_false]

/-- A write of one word that goes through the mask `m` stores the bits of `m` in that word. -/
theorem writesHalf_merge {stored : Nat → Bool} {m : Dword} (hm : ∀ k, k < 64 → m.getLsbD k = stored k) (hi : Bool)
    (old : Dword) (d : Word) : WritesHalf stored hi d old (merge m old (setHalf hi old d)) := by
  intro k hk
  rw [merge_getLsbD, hm k hk, setHalf_getLsbD _ _ _ _ hk]
  cases stored k
  · rfl
  · by_cases h : hi = decide (32 ≤ k) <;> simp [h]

/-- The low word of `v`, written to bits that lie in it. -/
theorem WritesHalf.toDword {stored : Nat → Bool} (low : ∀ k, stored k = true → k < 32) {v old new : Dword}
    (h : WritesHalf stored false (loHalf v) old new) : WritesDword stored v old new := by
  intro k hk
  rw [h k hk]
  cases hs : stored k
  · rfl
  · have hk' := low k hs
    have : ¬32 ≤ k := by omega
    simp only [this, decide_false, decide_true, Bool.and_self, if_true, Nat.mod_eq_of_lt hk', loHalf_getLsbD, hk',
      Bool.true_and]

/-- Both words of `v`, written one after the other. -/
theorem writesDword_of_halves {stored : Nat → Bool} {v old mid new : Dword}
    (lo : WritesHalf stored false (loHalf v) old mid) (hi : WritesHalf stored true (hiHalf v) mid new) :
    WritesDword stored v old new := by
  intro k hk
  rw [hi k hk, lo k hk]
  cases stored k
  · rfl
  · by_cases h : 32 ≤ k
    · have hi' : k % 32 < 32 := Nat.mod_lt _ (by decide)
      have pos : 32 + k % 32 = k := by omega
      simp only [h, decide_true, Bool.and_self, if_true, hiHalf_getLsbD, hi', Bool.true_and, pos]
    · have hk' : k < 32 := by omega
      simp only [h, decide_false, Bool.true_eq_false, Bool.false_eq_true, decide_true, Bool.true_and, Bool.and_self,
        if_true, if_false, Nat.mod_eq_of_lt hk', loHalf_getLsbD, hk']

/-! ## One register of an array -/

section Cells

variable {s : State} {n : Index} {i : Instr} {f : State → State} {x : Dword} {Q : Dword → Dword → Prop} {r : SysReg} {v : Dword}
  {mask : ControlReg → Dword}

theorem setBcr_self (s : State) (n : Index) : s.setBcr n (s.bcr n) = s := by
  simp [State.setBcr, State.bcr]

theorem setWcr_self (s : State) (n : Index) : s.setWcr n (s.wcr n) = s := by
  simp [State.setWcr, State.wcr]

theorem setBvr_setBvr (s : State) (n : Index) (v w : Dword) : (s.setBvr n v).setBvr n w = s.setBvr n w := by
  simp [State.setBvr]

theorem setWvr_setWvr (s : State) (n : Index) (v w : Dword) : (s.setWvr n v).setWvr n w = s.setWvr n w := by
  simp [State.setWvr]

theorem guarded_write_bcr (h : exec i s = .next (writeReg .guarded .readWrite i.ad s f)) (hf : f s = s.setBcr n x)
    (hp : Permitted s i.ad) (hl : s.softLock i.ad = false) (hQ : Q (s.bcr n) x) :
    ∃ t, exec i s = .next t ∧ OnlyBcr s t n ∧ Q (s.bcr n) (t.bcr n) :=
  ⟨(s.setBcr n x).okWrite, hf ▸ guarded_write h hp hl, ⟨rfl, fun _ hm => s.bcr_setBcr_ne _ _ _ hm⟩,
    show Q _ ((s.setBcr n x).bcr n) from (s.bcr_setBcr_same n x).symm ▸ hQ⟩

theorem guarded_write_bvr (h : exec i s = .next (writeReg .guarded .readWrite i.ad s f)) (hf : f s = s.setBvr n x)
    (hp : Permitted s i.ad) (hl : s.softLock i.ad = false) (hQ : Q (s.bvr n) x) :
    ∃ t, exec i s = .next t ∧ OnlyBvr s t n ∧ Q (s.bvr n) (t.bvr n) :=
  ⟨(s.setBvr n x).okWrite, hf ▸ guarded_write h hp hl, ⟨rfl, fun _ hm => s.bvr_setBvr_ne _ _ _ hm⟩,
    show Q _ ((s.setBvr n x).bvr n) from (s.bvr_setBvr_same n x).symm ▸ hQ⟩

theorem guarded_write_wcr (h : exec i s = .next (writeReg .guarded .readWrite i.ad s f)) (hf : f s = s.setWcr n x)
    (hp : Permitted s i.ad) (hl : s.softLock i.ad = false) (hQ : Q (s.wcr n) x) :
    ∃ t, exec i s = .next t ∧ OnlyWcr s t n ∧ Q (s.wcr n) (t.wcr n) :=
  ⟨(s.setWcr n x).okWrite, hf ▸ guarded_write h hp hl, ⟨rfl, fun _ hm => s.wcr_setWcr_ne _ _ _ hm⟩,
    show Q _ ((s.setWcr n x).wcr n) from (s.wcr_setWcr_same n x).symm ▸ hQ⟩

theorem guarded_write_wvr (h : exec i s = .next (writeReg .guarded .readWrite i.ad s f)) (hf : f s = s.setWvr n x)
    (hp : Permitted s i.ad) (hl : s.softLock i.ad = false) (hQ : Q (s.wvr n) x) :
    ∃ t, exec i s = .next t ∧ OnlyWvr s t n ∧ Q (s.wvr n) (t.wvr n) :=
  ⟨(s.setWvr n x).okWrite, hf ▸ guarded_write h hp hl, ⟨rfl, fun _ hm => s.wvr_setWvr_ne _ _ _ hm⟩,
    show Q _ ((s.setWvr n x).wvr n) from (s.wvr_setWvr_same n x).symm ▸ hQ⟩

theorem trappableWrite_bcr (htda : r.trappedByTDA = true) (hmask : r.written = mask)
    (hx : s.sysRegWritten r v = s.setBcr n x) (hQ : Q (s.bcr n) x) :
    TrappableWrite r v s (Settling s mask fun s t => BcrFrame s t n ∧ Q (s.bcr n) (t.bcr n)) := by
  refine trappableWrite_of htda hmask fun late => ?_
  rw [hx]
  exact ⟨⟨rfl, fun _ hm => s.bcr_setBcr_ne _ _ _ hm⟩, show Q _ ((s.setBcr n x).bcr n) from (s.bcr_setBcr_same n x).symm ▸ hQ⟩

theorem trappableWrite_bvr (htda : r.trappedByTDA = true) (hmask : r.written = mask)
    (hx : s.sysRegWritten r v = s.setBvr n x) (hQ : Q (s.bvr n) x) :
    TrappableWrite r v s (Settling s mask fun s t => BvrFrame s t n ∧ Q (s.bvr n) (t.bvr n)) := by
  refine trappableWrite_of htda hmask fun late => ?_
  rw [hx]
  exact ⟨⟨rfl, fun _ hm => s.bvr_setBvr_ne _ _ _ hm⟩, show Q _ ((s.setBvr n x).bvr n) from (s.bvr_setBvr_same n x).symm ▸ hQ⟩

theorem trappableWrite_wcr (htda : r.trappedByTDA = true) (hmask : r.written = mask)
    (hx : s.sysRegWritten r v = s.setWcr n x) (hQ : Q (s.wcr n) x) :
    TrappableWrite r v s (Settling s mask fun s t => WcrFrame s t n ∧ Q (s.wcr n) (t.wcr n)) := by
  refine trappableWrite_of htda hmask fun late => ?_
  rw [hx]
  exact ⟨⟨rfl, fun _ hm => s.wcr_setWcr_ne _ _ _ hm⟩, show Q _ ((s.setWcr n x).wcr n) from (s.wcr_setWcr_same n x).symm ▸ hQ⟩

theorem trappableWrite_wvr (htda : r.trappedByTDA = true) (hmask : r.written = mask)
    (hx : s.sysRegWritten r v = s.setWvr n x) (hQ : Q (s.wvr n) x) :
    TrappableWrite r v s (Settling s mask fun s t => WvrFrame s t n ∧ Q (s.wvr n) (t.wvr n)) := by
  refine trappableWrite_of htda hmask fun late => ?_
  rw [hx]
  exact ⟨⟨rfl, fun _ hm => s.wvr_setWvr_ne _ _ _ hm⟩, show Q _ ((s.setWvr n x).wvr n) from (s.wvr_setWvr_same n x).symm ▸ hQ⟩

end Cells

theorem dmask_whole : dmask 63 0 = BitVec.allOnes 64 := by decide
theorem dmask_low : dmask 31 0 = 0xFFFFFFFF := by decide
theorem dmask_high : dmask 63 32 = 0xFFFFFFFF00000000 := by decide

/-! ## Implemented breakpoints and watchpoints -/

section Implemented

variable {s : State} {n : Index}

theorem readBreakpoint_present (h : n.toNat < s.cfg.pe.numBrp) (ad : AddrDesc) (v : State → Word) :
    readBreakpoint n ad s v = readValue .guarded .readWrite ad s v := if_pos (decide_eq_true h)

theorem writeBreakpoint_present (h : n.toNat < s.cfg.pe.numBrp) (ad : AddrDesc) (w : State → State) :
    writeBreakpoint n ad s w = writeReg .guarded .readWrite ad s w := if_pos (decide_eq_true h)

theorem readWatchpoint_present (h : n.toNat < s.cfg.pe.numWrp) (ad : AddrDesc) (v : State → Word) :
    readWatchpoint n ad s v = readValue .guarded .readWrite ad s v := if_pos (decide_eq_true h)

theorem writeWatchpoint_present (h : n.toNat < s.cfg.pe.numWrp) (ad : AddrDesc) (w : State → State) :
    writeWatchpoint n ad s w = writeReg .guarded .readWrite ad s w := if_pos (decide_eq_true h)

/-- A read under the clause `guarded`, admitted. -/
theorem guarded_readValue {i : Instr} {v : State → Word} (h : exec i s = .next (readValue .guarded .readWrite i.ad s v))
    (hp : Permitted s i.ad) : exec i s = reads s (v s) := guarded_read h hp

/-- A write under the clause `guarded` that stores nothing, admitted. -/
theorem guarded_write_nothing {i : Instr} {f : State → State} (h : exec i s = .next (writeReg .guarded .readWrite i.ad s f))
    (hp : Permitted s i.ad) (hf : f s = s) : exec i s = accepts s := by
  cases hl : s.softLock i.ad
  · rw [guarded_write h hp hl, hf]; rfl
  · exact guarded_write_locked h hp hl

end Implemented

/-! ## The control registers -/

section Control

variable {s : State} {n : Index}

theorem lbnMask_getLsbD (c : Config) {k : Nat} (hk : k < 32) :
    (maskAt 16 4 ||| maskIf c.dbg.debugv8p9 (maskAt 30 2)).getLsbD k = lbnBit c k := by
  simp only [BitVec.getLsbD_or, maskIf_getLsbD, maskAt_getLsbD, lbnBit, hk, true_and]
  rw [Bool.and_comm]
  congr 1
  · exact decide_eq_decide.2 (by omega)
  · congr 1
    exact decide_eq_decide.2 (by omega)

theorem isContextType_eq (bt : BitVec 4) : isContextType bt = !isAddressType bt := by
  simp [isContextType, isAddressType]

theorem bcrRes1_getLsbD (c : Config) (bt : BitVec 4) {k : Nat} (hk : k < 32) :
    (bcrRes1 c bt).getLsbD k = ((!c.dbg.aa32 || !isAddressType bt) && decide (5 ≤ k ∧ k ≤ 8)) := by
  rw [bcrRes1, maskIf_getLsbD, maskAt_getLsbD, isContextType_eq]
  congr 1
  exact decide_eq_decide.2 (by omega)

/-- The fields of DBGBCR<n>_EL1[31:0] as they are read, BAS as ones where it is RES1. -/
theorem readStored_bcr_getLsbD (c : Config) (n : Index) (bt : BitVec 4) (raw : Word) {k : Nat} (hk : k < 32) :
    (readStored false (bcrFields c n &&& ~~~bcrRes1 c bt) (bcrRes1 c bt) raw).getLsbD k =
      if 5 ≤ k ∧ k ≤ 8 ∧ (c.dbg.aa32 = false ∨ isAddressType bt = false) then true
      else bcrField c n k && raw.getLsbD k := by
  have res1 : (bcrRes1 c bt).getLsbD k = decide (5 ≤ k ∧ k ≤ 8 ∧ (c.dbg.aa32 = false ∨ isAddressType bt = false)) := by
    rw [bcrRes1_getLsbD c bt hk, Bool.eq_iff_iff]
    simp only [Bool.and_eq_true, Bool.or_eq_true, Bool.not_eq_true', decide_eq_true_eq]
    tauto
  rw [readStored_getLsbD, BitVec.getLsbD_and, BitVec.getLsbD_not, res1, bcrFields_getLsbD c n k hk]
  by_cases h : 5 ≤ k ∧ k ≤ 8 ∧ (c.dbg.aa32 = false ∨ isAddressType bt = false)
  · rw [if_pos h, decide_eq_true h, Bool.not_true, Bool.and_false, Bool.and_false, if_neg Bool.false_ne_true]
  · rw [if_neg h, decide_eq_false h, decide_eq_true hk]
    cases bcrField c n k <;> rfl

theorem isLinkedAddress_iff (bt : BitVec 4) : isLinkedAddress bt = true ↔ bt = 0b0001 ∨ bt = 0b0101 := by
  simp [isLinkedAddress]

theorem readBcrLo_getLsbD (hp : PlainStorage s) {k : Nat} (hk : k < 32)
    (h : s.bt n = 0b0001 ∨ s.bt n = 0b0101 ∨ lbnBit s.cfg k = false) :
    (readBcrLo n s).getLsbD k =
      if 5 ≤ k ∧ k ≤ 8 ∧ (s.cfg.dbg.aa32 = false ∨ isAddressType (s.bt n) = false) then true
      else bcrField s.cfg n k && (s.bcr n).getLsbD k := by
  have raw : (loHalf (s.bcr n)).getLsbD k = (s.bcr n).getLsbD k := by rw [loHalf_getLsbD, decide_eq_true hk, Bool.true_and]
  have shown := readStored_bcr_getLsbD s.cfg n (s.bt n) (loHalf (s.bcr n)) hk
  simp only [readBcrLo, hp]
  split
  · rw [shown, raw]
  · rename_i hb
    have named : lbnBit s.cfg k = false := by
      rcases h with h | h | h
      · exact absurd ((isLinkedAddress_iff _).2 (.inl h)) hb
      · exact absurd ((isLinkedAddress_iff _).2 (.inr h)) hb
      · exact h
    rw [merge_getLsbD, lbnMask_getLsbD _ hk, named, if_neg Bool.false_ne_true, shown, raw]

theorem readWcrLo_getLsbD (hp : PlainStorage s) {k : Nat} (hk : k < 32)
    (h : (s.wcr n).getLsbD 20 = true ∨ lbnBit s.cfg k = false) :
    (readWcrLo n s).getLsbD k = (wcrField s.cfg k && (s.wcr n).getLsbD k) := by
  have shown : (readStored false (wcrFields s.cfg) 0 (loHalf (s.wcr n))).getLsbD k =
      (wcrField s.cfg k && (s.wcr n).getLsbD k) := by
    rw [readStored_getLsbD, wcrFields_getLsbD _ _ hk, loHalf_getLsbD, decide_eq_true hk]
    cases wcrField s.cfg k <;> simp
  simp only [readWcrLo, hp]
  split
  · exact shown
  · rename_i hb
    rw [merge_getLsbD, lbnMask_getLsbD _ hk, h.resolve_left hb, if_neg Bool.false_ne_true, shown]

/-- A write of the low word of DBGBCR<n>_EL1 stores its fields, in that register. -/
theorem writeBcrLo_eq (hp : PlainStorage s) (n : Index) (d : Word) :
    ∃ x, writeBcrLo n d s = s.setBcr n x ∧
      WritesHalf (fun k => decide (k < 32) && bcrField s.cfg n k) false d (s.bcr n) x := by
  refine ⟨_, rfl, ?_⟩
  rw [hp]
  exact writesHalf_setHalf_writeStored (bcrFields_getLsbD s.cfg n) _ _ _

theorem writeWcrLo_eq (hp : PlainStorage s) (n : Index) (d : Word) :
    ∃ x, writeWcrLo n d s = s.setWcr n x ∧
      WritesHalf (fun k => decide (k < 32) && wcrField s.cfg k) false d (s.wcr n) x := by
  refine ⟨_, rfl, ?_⟩
  rw [hp]
  exact writesHalf_setHalf_writeStored (wcrFields_getLsbD s.cfg) _ _ _

theorem writeStored_none (reserved raw d : Word) : writeStored false 0 reserved raw d = raw := by
  apply BitVec.eq_of_getLsbD_eq
  intro k _
  rw [writeStored_getLsbD, if_neg]
  exact Bool.eq_false_iff.1 BitVec.getLsbD_zero

/-- The high word stores nothing. -/
theorem writeBcrHi_eq (hp : PlainStorage s) (n : Index) (d : Word) : writeBcrHi n d s = s := by
  simp only [writeBcrHi, hp, writeStored_none, setHalf_hiHalf, setBcr_self]

theorem writeWcrHi_eq (hp : PlainStorage s) (n : Index) (d : Word) : writeWcrHi n d s = s := by
  simp only [writeWcrHi, hp, writeStored_none, setHalf_hiHalf, setWcr_self]

theorem readBcrHi_eq (hp : PlainStorage s) (n : Index) : readBcrHi n s = 0 := by
  simp [readBcrHi, readStored, show s.cfg.opt.res0Storage = false from hp]

theorem readWcrHi_eq (hp : PlainStorage s) (n : Index) : readWcrHi n s = 0 := by
  simp [readWcrHi, readStored, show s.cfg.opt.res0Storage = false from hp]

/-- The System register views of DBGBCR<n>_EL1 store what the low word of the data says. -/
theorem sysRegWritten_dbgbcr (hp : PlainStorage s) (n : Index) (v : Dword) :
    s.sysRegWritten (.dbgbcr n) v = writeBcrLo n (loHalf v) s := by
  show (if s.cfg.dbg.debugv8p9 then writeBcrHi n (hiHalf v) (writeBcrLo n (loHalf v) s) else writeBcrLo n (loHalf v) s) = _
  rw [writeBcrHi_eq (s := writeBcrLo n (loHalf v) s) hp, ite_self]

theorem sysRegWritten_dbgwcr (hp : PlainStorage s) (n : Index) (v : Dword) :
    s.sysRegWritten (.dbgwcr n) v = writeWcrLo n (loHalf v) s := by
  show (if s.cfg.dbg.debugv8p9 then writeWcrHi n (hiHalf v) (writeWcrLo n (loHalf v) s) else writeWcrLo n (loHalf v) s) = _
  rw [writeWcrHi_eq (s := writeWcrLo n (loHalf v) s) hp, ite_self]

theorem low_of_control {field : Nat → Bool} (k : Nat) (h : (decide (k < 32) && field k) = true) : k < 32 :=
  of_decide_eq_true (Bool.and_eq_true_iff.1 h).1

end Control

/-- Settles O26: one ladder for both words, and the two System register views. -/
theorem breakpointControl : Obligations.BreakpointControl := by
  intro s n d v ad hn hp stored
  have read : exec (.rdDbgbcrLo n ad) s = .next (readValue .guarded .readWrite ad s (readBcrLo n)) :=
    congrArg Host.Outcome.next (readBreakpoint_present hn ad _)
  have write : exec (.wrDbgbcrLo n d ad) s = .next (writeReg .guarded .readWrite ad s (writeBcrLo n d)) :=
    congrArg Host.Outcome.next (writeBreakpoint_present hn ad _)
  obtain ⟨x, hx, hs⟩ := writeBcrLo_eq hp n d
  obtain ⟨y, hy, hv⟩ := writeBcrLo_eq hp n (loHalf v)
  have whole := WritesHalf.toDword low_of_control hv
  refine ⟨fun hpm hl => guarded_write_bcr (i := .wrDbgbcrLo n d ad) write hx hpm hl hs,
    fun hpm hl => guarded_write_locked (i := .wrDbgbcrLo n d ad) write hpm hl,
    fun hpm => ⟨readBcrLo n s, guarded_readValue (i := .rdDbgbcrLo n ad) read hpm, fun k hk => readBcrLo_getLsbD hp hk⟩,
    guardedErrors_write (i := .wrDbgbcrLo n d ad) write, guardedErrors_read (i := .rdDbgbcrLo n ad) read, fun p hm => ?views⟩
  case views =>
    simp only [List.mem_cons, List.not_mem_nil, or_false] at hm
    rcases hm with rfl | rfl
    · exact trappableWrite_bcr rfl (congrArg (bitsOf (.bcr n)) dmask_whole) ((sysRegWritten_dbgbcr hp n v).trans hy) whole
    · exact trappableWrite_bcr rfl (congrArg (bitsOf (.bcr n)) dmask_low) hy whole

/-- Settles O27, as O26 is settled. -/
theorem watchpointControl : Obligations.WatchpointControl := by
  intro s n d v ad hn hp stored
  have read : exec (.rdDbgwcrLo n ad) s = .next (readValue .guarded .readWrite ad s (readWcrLo n)) :=
    congrArg Host.Outcome.next (readWatchpoint_present hn ad _)
  have write : exec (.wrDbgwcrLo n d ad) s = .next (writeReg .guarded .readWrite ad s (writeWcrLo n d)) :=
    congrArg Host.Outcome.next (writeWatchpoint_present hn ad _)
  obtain ⟨x, hx, hs⟩ := writeWcrLo_eq hp n d
  obtain ⟨y, hy, hv⟩ := writeWcrLo_eq hp n (loHalf v)
  have whole := WritesHalf.toDword low_of_control hv
  refine ⟨fun hpm hl => guarded_write_wcr (i := .wrDbgwcrLo n d ad) write hx hpm hl hs,
    fun hpm hl => guarded_write_locked (i := .wrDbgwcrLo n d ad) write hpm hl,
    fun hpm => ⟨readWcrLo n s, guarded_readValue (i := .rdDbgwcrLo n ad) read hpm, fun k hk => readWcrLo_getLsbD hp hk⟩,
    guardedErrors_write (i := .wrDbgwcrLo n d ad) write, guardedErrors_read (i := .rdDbgwcrLo n ad) read, fun p hm => ?views⟩
  case views =>
    simp only [List.mem_cons, List.not_mem_nil, or_false] at hm
    rcases hm with rfl | rfl
    · exact trappableWrite_wcr rfl (congrArg (bitsOf (.wcr n)) dmask_whole) ((sysRegWritten_dbgwcr hp n v).trans hy) whole
    · exact trappableWrite_wcr rfl (congrArg (bitsOf (.wcr n)) dmask_low) hy whole

/-- Settles O28: the high words are read as 0 and store nothing. -/
theorem controlHighWords : Obligations.ControlHighWords := by
  intro s n d ad h9 hp
  refine ⟨fun hn => ?breakpoint, fun hn => ?watchpoint⟩
  case breakpoint =>
    have present : (s.cfg.hasBreakpoint n && !s.cfg.dbg.debugv8p9) = false := by rw [h9]; exact Bool.and_false _
    have read : exec (.rdDbgbcrHi n ad) s = .next (readValue .guarded .readWrite ad s (readBcrHi n)) :=
      congrArg Host.Outcome.next ((if_neg (Bool.eq_false_iff.1 present)).trans (readBreakpoint_present hn ad _))
    have write : exec (.wrDbgbcrHi n d ad) s = .next (writeReg .guarded .readWrite ad s (writeBcrHi n d)) :=
      congrArg Host.Outcome.next ((if_neg (Bool.eq_false_iff.1 present)).trans (writeBreakpoint_present hn ad _))
    refine ⟨fun hpm => ⟨?_, ?_⟩, guardedErrors_read (i := .rdDbgbcrHi n ad) read,
      guardedErrors_write (i := .wrDbgbcrHi n d ad) write⟩
    · rw [guarded_readValue (i := .rdDbgbcrHi n ad) read hpm, readBcrHi_eq hp]
    · exact guarded_write_nothing (i := .wrDbgbcrHi n d ad) write hpm (writeBcrHi_eq hp n d)
  case watchpoint =>
    have present : (s.cfg.hasWatchpoint n && !s.cfg.dbg.debugv8p9) = false := by rw [h9]; exact Bool.and_false _
    have read : exec (.rdDbgwcrHi n ad) s = .next (readValue .guarded .readWrite ad s (readWcrHi n)) :=
      congrArg Host.Outcome.next ((if_neg (Bool.eq_false_iff.1 present)).trans (readWatchpoint_present hn ad _))
    have write : exec (.wrDbgwcrHi n d ad) s = .next (writeReg .guarded .readWrite ad s (writeWcrHi n d)) :=
      congrArg Host.Outcome.next ((if_neg (Bool.eq_false_iff.1 present)).trans (writeWatchpoint_present hn ad _))
    refine ⟨fun hpm => ⟨?_, ?_⟩, guardedErrors_read (i := .rdDbgwcrHi n ad) read,
      guardedErrors_write (i := .wrDbgwcrHi n d ad) write⟩
    · rw [guarded_readValue (i := .rdDbgwcrHi n ad) read hpm, readWcrHi_eq hp]
    · exact guarded_write_nothing (i := .wrDbgwcrHi n d ad) write hpm (writeWcrHi_eq hp n d)

/-! ## The value registers -/

section Value

variable {s : State}

theorem ressBits_getLsbD (c : Config) {k : Nat} (hk : k < 64) : (ressMask c).getLsbD k = decide (topBit c < k) := by
  rw [ressMask_getLsbD]
  exact decide_eq_decide.2 (by omega)

theorem ressField_eq (c : Config) {k : Nat} (hk : k < 64) : ressField c k = (c.opt.ressWritable && decide (topBit c < k)) := by
  rw [ressField]
  congr 1
  exact decide_eq_decide.2 (by omega)

/-- What a write of DBGBVR<n>_EL1 stores. -/
theorem bvrStored_getLsbD {c : Config} (hp : c.opt.res0Storage = false) (wide : Bool) (bt : BitVec 4) {k : Nat} (hk : k < 64) :
    (bvrStored c wide (bvrLayout c bt)).getLsbD k =
      (bvrField c wide bt k || (isAddressType bt && ressField c k)) := by
  simp only [bvrStored, hp, Bool.false_eq_true, if_false, BitVec.getLsbD_or, maskIf_getLsbD, bvrLayout_ress,
    bvrLayout_fields_getLsbD _ _ _ _ hk, ressField_eq c hk]
  cases isAddressType bt
  · simp
  · rw [if_pos rfl, ressBits_getLsbD c hk, Bool.true_and]

/-- What a write of DBGWVR<n>_EL1 stores. -/
theorem wvrStored_getLsbD {c : Config} (hp : c.opt.res0Storage = false) {k : Nat} (hk : k < 64) :
    (wvrStored c).getLsbD k = (decide (2 ≤ k ∧ k ≤ topBit c) || ressField c k) := by
  simp only [wvrStored, wvrFields, hp, BitVec.getLsbD_or, maskIf_getLsbD, ressField_eq c hk, ressBits_getLsbD c hk, vaTop_eq,
    dmask_getLsbD _ _ _ (topBit_lt c), Bool.false_and, Bool.or_false]

theorem le_topBit (c : Config) : 48 ≤ topBit c := by
  simp only [topBit]
  split
  · omega
  · split <;> omega

theorem three_getLsbD (k : Nat) : (3 : Dword).getLsbD k = decide (k < 2) := by
  rw [show (3 : Dword) = dmask 1 0 from by decide, dmask_getLsbD _ _ _ (by decide)]
  exact decide_eq_decide.2 (by omega)

/-- An address register: bits [1:0] read 0, RESS bits are stored or copies of the top bit. -/
theorem readAddress_getLsbD {c : Config} (hp : c.opt.res0Storage = false) (raw : Dword) {k : Nat} (hk : k < 64) :
    (readAddress c raw).getLsbD k =
      if topBit c < k then (if c.opt.ressWritable then raw.getLsbD k else raw.getLsbD (topBit c))
      else decide (2 ≤ k) && raw.getLsbD k := by
  have top := le_topBit c
  have bits : ∀ j, j < 64 → (raw &&& ~~~(3 : Dword)).getLsbD j = (decide (2 ≤ j) && raw.getLsbD j) := by
    intro j hj
    rw [BitVec.getLsbD_and, BitVec.getLsbD_not, three_getLsbD, decide_eq_true hj, Bool.true_and, ← decide_not, Bool.and_comm]
    congr 1
    exact decide_eq_decide.2 (by omega)
  have topShown : (raw &&& ~~~(3 : Dword)).getLsbD (topBit c) = raw.getLsbD (topBit c) := by
    rw [bits _ (topBit_lt c), decide_eq_true (by omega), Bool.true_and]
  simp only [readAddress, hp, Bool.false_eq_true, if_false]
  by_cases hr : c.opt.ressWritable = true
  · rw [if_pos hr, if_pos hr, bits k hk]
    split
    · rw [decide_eq_true (by omega), Bool.true_and]
    · rfl
  · rw [if_neg hr, if_neg hr, copyTop, vaTop_eq, topShown]
    by_cases hk' : topBit c < k
    · rw [if_pos hk']
      cases raw.getLsbD (topBit c) <;> simp [-BitVec.getLsbD_eq_getElem, ressBits_getLsbD c hk, hk', hk]
    · rw [if_neg hk']
      cases raw.getLsbD (topBit c) <;>
        simp only [if_true, if_false, Bool.false_eq_true, BitVec.getLsbD_or, BitVec.getLsbD_and, BitVec.getLsbD_not,
          ressBits_getLsbD c hk, hk', hk, decide_false, decide_true, Bool.not_false, Bool.and_true, Bool.or_false, ← bits k hk]

theorem bvrLayout_eq_address_iff (c : Config) (bt : BitVec 4) : bvrLayout c bt = .address ↔ isAddressType bt = true := by
  simp only [bvrLayout, isAddressType]
  generalize bt.getLsbD 3 = b3, bt.getLsbD 2 = b2, bt.getLsbD 1 = b1
  cases b3 <;> cases b2 <;> cases b1 <;> simp <;> split <;> simp

theorem readBvr_eq (c : Config) (wide : Bool) (bt : BitVec 4) (raw : Dword) :
    readBvr c wide (bvrLayout c bt) raw =
      if isAddressType bt then readAddress c raw
      else readStored c.opt.res0Storage ((bvrLayout c bt).fields c wide) 0 raw := by
  cases hl : bvrLayout c bt with
  | address => rw [if_pos ((bvrLayout_eq_address_iff c bt).1 hl)]; rfl
  | _ =>
    rw [if_neg fun ha => by rw [(bvrLayout_eq_address_iff c bt).2 ha] at hl; cases hl]
    rfl

/-- What DBGBVR<n>_EL1 shows, under the layout of BT. -/
theorem readBvr_getLsbD {c : Config} (hp : c.opt.res0Storage = false) (wide : Bool) (bt : BitVec 4) (raw : Dword) {k : Nat}
    (hk : k < 64) :
    (readBvr c wide (bvrLayout c bt) raw).getLsbD k =
      if isAddressType bt && decide (topBit c < k)
      then (if c.opt.ressWritable then raw.getLsbD k else raw.getLsbD (topBit c))
      else bvrField c wide bt k && raw.getLsbD k := by
  rw [readBvr_eq]
  by_cases ha : isAddressType bt = true
  · rw [if_pos ha, readAddress_getLsbD hp raw hk, ha, Bool.true_and]
    by_cases hk' : topBit c < k
    · rw [if_pos hk', decide_eq_true hk', if_pos rfl]
    · have field : bvrField c wide bt k = decide (2 ≤ k) := by
        simp only [bvrField, ha, if_true]
        exact decide_eq_decide.2 (by omega)
      rw [if_neg hk', decide_eq_false hk', if_neg Bool.false_ne_true, field]
  · rw [if_neg ha, Bool.eq_false_iff.2 ha, Bool.false_and, if_neg Bool.false_ne_true, hp, readStored_getLsbD,
      bvrLayout_fields_getLsbD _ _ _ _ hk]
    cases bvrField c wide bt k <;> simp

/-- The two words of a doubleword, bit by bit. -/
theorem halves_getLsbD (v : Dword) {k : Nat} (hk : k < 32) :
    (loHalf v).getLsbD k = v.getLsbD k ∧ (hiHalf v).getLsbD k = v.getLsbD (32 + k) := by
  rw [loHalf_getLsbD, hiHalf_getLsbD, decide_eq_true hk, Bool.true_and, Bool.true_and]
  exact ⟨rfl, rfl⟩

/-- The bits of DBGBVR<n>_EL1 that are stored. -/
def bvrBit (s : State) (n : Index) (k : Nat) : Bool :=
  bvrField s.cfg (s.cfg.sys.vmid16 && s.pe.vtcrVS && s.pe.el2AA64) (s.bt n) k || (isAddressType (s.bt n) && ressField s.cfg k)

/-- A write of one word of DBGBVR<n>_EL1 stores its bits, in that register. -/
theorem writeBvr_eq (hp : PlainStorage s) (n : Index) (hi : Bool) (d : Word) :
    ∃ x, writeBvr n hi d s = s.setBvr n x ∧ WritesHalf (bvrBit s n) hi d (s.bvr n) x :=
  ⟨_, rfl, writesHalf_merge (fun _ hk => bvrStored_getLsbD hp _ _ hk) hi _ d⟩

/-- The bits of DBGWVR<n>_EL1 that are stored. -/
def wvrBit (s : State) (k : Nat) : Bool := decide (2 ≤ k ∧ k ≤ topBit s.cfg) || ressField s.cfg k

theorem writeWvr_eq (hp : PlainStorage s) (n : Index) (hi : Bool) (d : Word) :
    ∃ x, writeWvr n hi d s = s.setWvr n x ∧ WritesHalf (wvrBit s) hi d (s.wvr n) x :=
  ⟨_, rfl, writesHalf_merge (fun _ hk => wvrStored_getLsbD hp hk) hi _ d⟩

/-- The AArch64 view of DBGBVR<n>_EL1 writes both words. -/
theorem sysRegWritten_dbgbvr (hp : PlainStorage s) (n : Index) (v : Dword) :
    ∃ x, s.sysRegWritten (.dbgbvr n) v = s.setBvr n x ∧ WritesDword (bvrBit s n) v (s.bvr n) x := by
  obtain ⟨x, hx, lo⟩ := writeBvr_eq hp n false (loHalf v)
  obtain ⟨y, hy, hi⟩ := writeBvr_eq (s := s.setBvr n x) hp n true (hiHalf v)
  rw [State.bvr_setBvr_same] at hi
  refine ⟨y, ?_, writesDword_of_halves lo hi⟩
  show writeBvr n true (hiHalf v) (writeBvr n false (loHalf v) s) = _
  rw [hx, hy, setBvr_setBvr]

theorem sysRegWritten_dbgwvr (hp : PlainStorage s) (n : Index) (v : Dword) :
    ∃ x, s.sysRegWritten (.dbgwvr n) v = s.setWvr n x ∧ WritesDword (wvrBit s) v (s.wvr n) x := by
  obtain ⟨x, hx, lo⟩ := writeWvr_eq hp n false (loHalf v)
  obtain ⟨y, hy, hi⟩ := writeWvr_eq (s := s.setWvr n x) hp n true (hiHalf v)
  rw [State.wvr_setWvr_same] at hi
  refine ⟨y, ?_, writesDword_of_halves lo hi⟩
  show writeWvr n true (hiHalf v) (writeWvr n false (loHalf v) s) = _
  rw [hx, hy, setWvr_setWvr]

end Value

/-- Settles O29: two words, three System register views. -/
theorem breakpointValueWrite : Obligations.BreakpointValueWrite := by
  intro s n d v ad hn hp wide stored
  have writeLo : exec (.wrDbgbvrLo n d ad) s = .next (writeReg .guarded .readWrite ad s (writeBvr n false d)) :=
    congrArg Host.Outcome.next (writeBreakpoint_present hn ad _)
  have writeHi : exec (.wrDbgbvrHi n d ad) s = .next (writeReg .guarded .readWrite ad s (writeBvr n true d)) :=
    congrArg Host.Outcome.next (writeBreakpoint_present hn ad _)
  obtain ⟨x, hx, lo⟩ := writeBvr_eq hp n false d
  obtain ⟨y, hy, hi⟩ := writeBvr_eq hp n true d
  obtain ⟨z, hz, both⟩ := sysRegWritten_dbgbvr hp n v
  have low : loHalf (0#32 ++ d) = d := loHalf_append 0 d
  have view32 : s.sysRegWritten (.dbgbvr32 n) (0#32 ++ d) = s.setBvr n x := by
    show writeBvr n false (loHalf (0#32 ++ d)) s = _
    rw [low, hx]
  have viewX : s.sysRegWritten (.dbgbxvr n) (0#32 ++ d) = s.setBvr n y := by
    show writeBvr n true (loHalf (0#32 ++ d)) s = _
    rw [low, hy]
  exact ⟨fun hpm hl => ⟨guarded_write_bvr (i := .wrDbgbvrLo n d ad) writeLo hx hpm hl lo,
      guarded_write_bvr (i := .wrDbgbvrHi n d ad) writeHi hy hpm hl hi⟩,
    fun hpm hl => ⟨guarded_write_locked (i := .wrDbgbvrLo n d ad) writeLo hpm hl,
      guarded_write_locked (i := .wrDbgbvrHi n d ad) writeHi hpm hl⟩,
    guardedErrors_write (i := .wrDbgbvrLo n d ad) writeLo, guardedErrors_write (i := .wrDbgbvrHi n d ad) writeHi,
    trappableWrite_bvr rfl (congrArg (bitsOf (.bvr n)) dmask_whole) hz both,
    trappableWrite_bvr rfl (congrArg (bitsOf (.bvr n)) dmask_low) view32 lo,
    trappableWrite_bvr rfl (congrArg (bitsOf (.bvr n)) dmask_high) viewX hi⟩

/-- Settles O30: the layout of BT, bit by bit. -/
theorem breakpointValueRead : Obligations.BreakpointValueRead := by
  intro s n ad hn hp wide shown
  have readLo : exec (.rdDbgbvrLo n ad) s = .next (readValue .guarded .readWrite ad s fun t => loHalf (readBvrOf n t)) :=
    congrArg Host.Outcome.next (readBreakpoint_present hn ad _)
  have readHi : exec (.rdDbgbvrHi n ad) s = .next (readValue .guarded .readWrite ad s fun t => hiHalf (readBvrOf n t)) :=
    congrArg Host.Outcome.next (readBreakpoint_present hn ad _)
  have bits {k : Nat} (hk : k < 64) : (readBvrOf n s).getLsbD k = shown k := readBvr_getLsbD hp wide _ _ hk
  refine ⟨fun hpm => ⟨loHalf (readBvrOf n s), hiHalf (readBvrOf n s), guarded_readValue (i := .rdDbgbvrLo n ad) readLo hpm,
    guarded_readValue (i := .rdDbgbvrHi n ad) readHi hpm, fun k hk => ?_⟩,
    guardedErrors_read (i := .rdDbgbvrLo n ad) readLo, guardedErrors_read (i := .rdDbgbvrHi n ad) readHi⟩
  obtain ⟨lo, hi⟩ := halves_getLsbD (readBvrOf n s) hk
  rw [lo, hi]
  exact ⟨bits (by omega), bits (by omega)⟩

/-- Settles O31, as O29 and O30 are settled. -/
theorem watchpointValueWords : Obligations.WatchpointValueWords := by
  intro s n d v ad hn hp stored shown
  have writeLo : exec (.wrDbgwvrLo n d ad) s = .next (writeReg .guarded .readWrite ad s (writeWvr n false d)) :=
    congrArg Host.Outcome.next (writeWatchpoint_present hn ad _)
  have writeHi : exec (.wrDbgwvrHi n d ad) s = .next (writeReg .guarded .readWrite ad s (writeWvr n true d)) :=
    congrArg Host.Outcome.next (writeWatchpoint_present hn ad _)
  have readLo : exec (.rdDbgwvrLo n ad) s = .next (readValue .guarded .readWrite ad s fun t => loHalf (readWvrOf n t)) :=
    congrArg Host.Outcome.next (readWatchpoint_present hn ad _)
  have readHi : exec (.rdDbgwvrHi n ad) s = .next (readValue .guarded .readWrite ad s fun t => hiHalf (readWvrOf n t)) :=
    congrArg Host.Outcome.next (readWatchpoint_present hn ad _)
  have bits {k : Nat} (hk : k < 64) : (readWvrOf n s).getLsbD k = shown k := readAddress_getLsbD hp _ hk
  obtain ⟨x, hx, lo⟩ := writeWvr_eq hp n false d
  obtain ⟨y, hy, hi⟩ := writeWvr_eq hp n true d
  obtain ⟨z, hz, both⟩ := sysRegWritten_dbgwvr hp n v
  have view32 : s.sysRegWritten (.dbgwvr32 n) (0#32 ++ d) = s.setWvr n x := by
    show writeWvr n false (loHalf (0#32 ++ d)) s = _
    rw [show loHalf (0#32 ++ d) = d from loHalf_append 0 d, hx]
  refine ⟨fun hpm hl => ⟨guarded_write_wvr (i := .wrDbgwvrLo n d ad) writeLo hx hpm hl lo,
      guarded_write_wvr (i := .wrDbgwvrHi n d ad) writeHi hy hpm hl hi⟩,
    fun hpm hl => ⟨guarded_write_locked (i := .wrDbgwvrLo n d ad) writeLo hpm hl,
      guarded_write_locked (i := .wrDbgwvrHi n d ad) writeHi hpm hl⟩,
    fun hpm => ⟨loHalf (readWvrOf n s), hiHalf (readWvrOf n s), guarded_readValue (i := .rdDbgwvrLo n ad) readLo hpm,
      guarded_readValue (i := .rdDbgwvrHi n ad) readHi hpm, fun k hk => ?words⟩, fun i hm => ?errors,
    trappableWrite_wvr rfl (congrArg (bitsOf (.wvr n)) dmask_whole) hz both,
    trappableWrite_wvr rfl (congrArg (bitsOf (.wvr n)) dmask_low) view32 lo⟩
  case words =>
    obtain ⟨lo, hi⟩ := halves_getLsbD (readWvrOf n s) hk
    rw [lo, hi]
    exact ⟨bits (by omega), bits (by omega)⟩
  case errors =>
    simp only [List.mem_cons, List.not_mem_nil, or_false] at hm
    rcases hm with rfl | rfl | rfl | rfl
    · exact guardedErrors_write (i := .wrDbgwvrLo n d ad) writeLo
    · exact guardedErrors_write (i := .wrDbgwvrHi n d ad) writeHi
    · exact guardedErrors_read (i := .rdDbgwvrLo n ad) readLo
    · exact guardedErrors_read (i := .rdDbgwvrHi n ad) readHi

end Sys2Proof.Proofs.ArrayRegister
end

section
/-!
Resets and Core power (`WarmReset`, `ColdReset`, `ExternalDebugResetAndLeavingReset`, `CorePower`).
-/

namespace Sys2Proof.Proofs.ResetAndPower

open Sys2Proof.Machine Sys2Proof.Safety Sys2Proof.Proofs.Transaction Sys2Proof.Proofs.AgentRules

/-- Two words that agree in the bits of a field hold the same field. -/
theorem extractLsb'_congr {n : Nat} {v w : BitVec n} {lo len : Nat}
    (h : ∀ k, lo ≤ k → k < lo + len → v.getLsbD k = w.getLsbD k) : v.extractLsb' lo len = w.extractLsb' lo len := by
  apply BitVec.eq_of_getLsbD_eq
  intro k hk
  rw [BitVec.getLsbD_extractLsb', BitVec.getLsbD_extractLsb', h _ (Nat.le_add_right _ _) (by omega)]

/-! ## Warm reset -/

section Warm

variable {s : State}

/-- EDESR after a Warm reset, in the terms of 44 R503 a. -/
theorem edesrAfterWarm_fields (s : State) :
    s.edesrAfterWarm.extractLsb' 4 28 = s.ctl.edesr.extractLsb' 4 28 ∧ s.edesrAfterWarm.getLsbD 0 = false ∧
    s.edesrAfterWarm.getLsbD 1 = (if s.cfg.dbg.doPD then s.env.ctiRCE else s.ctl.edecr.getLsbD 1) ∧
    s.edesrAfterWarm.getLsbD 2 = (if s.cfg.dbg.doPD then s.ctl.edesr.getLsbD 2 else s.ctl.edecr.getLsbD 2) ∧
    s.edesrAfterWarm.getLsbD 3 = (s.ctl.edesr.getLsbD 3 && !s.cfg.dbg.debugv8p8) := by
  refine ⟨extractLsb'_congr fun k lo _ => ?_, edesrAfterWarm_getLsbD s 0, ?_, edesrAfterWarm_getLsbD s 2,
    edesrAfterWarm_getLsbD s 3⟩
  · have : k ≠ 0 ∧ k ≠ 1 ∧ k ≠ 2 ∧ k ≠ 3 := by omega
    simp only [edesrAfterWarm_getLsbD, this, if_false]
  · refine (edesrAfterWarm_getLsbD s 1).trans ?_
    cases hd : s.cfg.dbg.doPD <;> simp [-BitVec.getLsbD_eq_getElem, State.rce, hd]

theorem warmEntries_edscr_getLsbD (s : State) {k : Nat} (hk : k ≠ 25) :
    s.warmEntries.ctl.edscr.getLsbD k = s.ctl.edscr.getLsbD k := by
  show (setBit s.ctl.edscr 25 _).getLsbD k = _
  rw [setBit_getLsbD, if_neg hk]

theorem warmReset_of_halted (h : s.hal.halted = true) : s.warmReset = s.exitDebugState.warmEntries := by
  rw [State.warmReset, if_pos h]

theorem warmReset_of_running (h : s.hal.halted = false) : s.warmReset = s.warmEntries := by
  rw [State.warmReset, h, if_neg Bool.false_ne_true]

end Warm

/-- Settles O57: the Warm entries, after an exit from Debug state where the PE was in it. -/
theorem warmReset : Obligations.WarmReset := by
  intro s
  obtain ⟨kept, osuc, rc, ss, ec⟩ := edesrAfterWarm_fields s
  cases h : s.hal.halted
  case true =>
    let t := s.exitDebugState
    refine ⟨t.warmEntries.ctl.edscr, s.edesrAfterWarm, t.hal.edwar, false, t.warmEntries.hal.edhsr,
      t.warmEntries.sticky.sdr, warmReset_of_halted h, fun k hk _ h25 => ?others, fun _ => ?status, fun hf => (by cases hf),
      kept, osuc, rc, ss, ec⟩
    case others =>
      rw [warmEntries_edscr_getLsbD t h25]
      show (edscrWithStatus s.ctl.edscr statusNonDebug).getLsbD k = _
      rw [edscrWithStatus_getLsbD, if_neg (by omega)]
    case status => exact (warmEntries_status t).trans (exitDebugState_status s)
  case false =>
    have running : s = { s with hal := { s.hal with halted := false } } := by rw [← h]
    refine ⟨s.warmEntries.ctl.edscr, s.edesrAfterWarm, s.hal.edwar, s.hal.edwarAA32, s.warmEntries.hal.edhsr,
      s.warmEntries.sticky.sdr, (warmReset_of_running h).trans ?state, fun k _ _ h25 => warmEntries_edscr_getLsbD s h25,
      fun ht => (by cases ht), fun _ => ⟨warmEntries_status s, rfl, rfl⟩, kept, osuc, rc, ss, ec⟩
    case state =>
      conv_lhs => rw [running]
      rfl

/-! ## Cold reset -/

section Cold

variable {s : State}

theorem coldReset_edscr_getLsbD (s : State) {k : Nat} (hk : k ≠ 25) :
    s.coldReset.ctl.edscr.getLsbD k = s.edscrAfterCold.getLsbD k := warmEntries_edscr_getLsbD s.coldEntries hk

/-- The fields of EDSCR that a Cold reset clears: those a debugger writes, the DCC and ITR flags and ERR. -/
theorem edscrAfterCold_getLsbD (s : State) {k : Nat} (hk : k < 32) (h : k = 6 ∨ k = 26 ∨ k = 27 ∨ k = 29 ∨ k = 30 ∨
    edscrField s.cfg k = true) : s.edscrAfterCold.getLsbD k = false := by
  have place : 6 ≤ k ∧ k ≠ 24 ∧ k ≠ 28 := by
    by_contra hc
    have : edscrField s.cfg k = false := by
      have hk' : k < 6 ∨ k = 24 ∨ k = 28 := by omega
      rcases hk' with hk' | rfl | rfl
      · interval_cases k <;> simp [edscrField]
      · simp [edscrField]
      · simp [edscrField]
    rcases h with h | h | h | h | h | h
    · omega
    · omega
    · omega
    · omega
    · omega
    · rw [this] at h; cases h
  have cleared : (edscrWritable s.cfg ||| maskAt 29 2 ||| maskAt 26 2 ||| maskAt 6 1 ||| maskAt 0 6).getLsbD k = true := by
    simp only [BitVec.getLsbD_or, maskAt_getLsbD, edscrWritable_getLsbD _ _ hk, Bool.or_eq_true, decide_eq_true_eq]
    rcases h with h | h | h | h | h | h <;> simp [h]
  have other : (maskAt 28 1 ||| maskAt 24 1).getLsbD k = false := by
    simp only [BitVec.getLsbD_or, maskAt_getLsbD, Bool.or_eq_false_iff, decide_eq_false_iff_not]
    omega
  simp only [State.edscrAfterCold, edscrWithStatus_getLsbD, show ¬k < 6 by omega, if_false, merge_getLsbD, other,
    Bool.false_eq_true, BitVec.getLsbD_and, BitVec.getLsbD_not, cleared, Bool.not_true, Bool.and_false]

/-- A bit cleared by a mask. -/
theorem and_not_getLsbD_of_mem {v m : Word} {k : Nat} (h : m.getLsbD k = true) : (v &&& ~~~m).getLsbD k = false := by
  rw [BitVec.getLsbD_and, BitVec.getLsbD_not, h, Bool.not_true, Bool.and_false, Bool.and_false]

theorem and_not_getLsbD_of_not_mem {v m : Word} {k : Nat} (hk : k < 32) (h : m.getLsbD k = false) :
    (v &&& ~~~m).getLsbD k = v.getLsbD k := by
  rw [BitVec.getLsbD_and, BitVec.getLsbD_not, h, decide_eq_true hk, Bool.not_false, Bool.and_true, Bool.and_true]

theorem coldReset_edeccr (s : State) : s.coldReset.ctl.edeccr = s.ctl.edeccr &&& ~~~edeccrFields s.cfg := by
  simp only [State.coldReset, State.warmEntries, State.coldEntries]

theorem coldReset_edscr2 (s : State) : s.coldReset.ctl.edscr2 = s.ctl.edscr2 &&& ~~~edscr2Fields s.cfg := by
  simp only [State.coldReset, State.warmEntries, State.coldEntries]

theorem coldReset_edecr (s : State) :
    s.coldReset.ctl.edecr = s.ctl.edecr &&& ~~~(edecrCoreFields s.cfg ||| maskIf s.cfg.dbg.doPD (maskAt 2 1)) := by
  simp only [State.coldReset, State.warmEntries, State.coldEntries]

theorem coldReset_editctrl (s : State) :
    s.coldReset.ctl.editctrl =
      if s.cfg.has.editctrlDomain = .core then s.ctl.editctrl &&& ~~~1 else s.ctl.editctrl := by
  simp only [State.coldReset, State.warmEntries, State.coldEntries]
  rfl

theorem coldReset_edprcr (s : State) : s.coldReset.ctl.edprcr = setBit s.ctl.edprcr 0 s.corenpdrqResetValue := by
  simp only [State.coldReset, State.warmEntries, State.coldEntries]

theorem coldReset_edacr (s : State) :
    s.coldReset.ctl.edacr =
      if s.cfg.has.edacr && s.cfg.has.edacrDomain = .core then s.free32 .edacr else s.ctl.edacr := by
  simp only [State.coldReset, State.warmEntries, State.coldEntries]

theorem coldReset_acrReset (s : State) :
    s.coldReset.acrReset =
      if s.cfg.has.edacr && s.cfg.has.edacrDomain = .core then
        (if s.cfg.has.edacr && s.cfg.has.edacrDomain = .core then s.free32 .edacr else s.ctl.edacr)
      else s.acrReset := by
  simp only [State.coldReset, State.warmEntries, State.coldEntries]

theorem corenpdrqResetValue_eq (s : State) :
    s.corenpdrqResetValue = if s.cfg.dbg.doPD then s.env.powerupRequest && s.cfg.opt.corenpdrqReset else s.ctl.edprcr.getLsbD 3 := by
  rw [State.corenpdrqResetValue]
  cases h : s.cfg.dbg.doPD <;> simp [-BitVec.getLsbD_eq_getElem, State.corepurq, h]

/-- EDESR after a Cold reset. -/
theorem coldReset_edesr_fields (s : State) :
    s.coldReset.ctl.edesr.getLsbD 0 = false ∧
    s.coldReset.ctl.edesr.getLsbD 1 = (if s.cfg.dbg.doPD then s.env.ctiRCE else s.ctl.edecr.getLsbD 1) ∧
    s.coldReset.ctl.edesr.getLsbD 2 = (!s.cfg.dbg.doPD && s.ctl.edecr.getLsbD 2) ∧
    s.coldReset.ctl.edesr.getLsbD 3 = (s.ctl.edesr.getLsbD 3 && !s.cfg.dbg.debugv8p8) ∧
    s.coldReset.ctl.edesr.extractLsb' 4 28 = s.ctl.edesr.extractLsb' 4 28 := by
  have edesr : s.coldEntries.ctl.edesr = if s.cfg.dbg.doPD then edesrSet s.ctl.edesr .ss false else s.ctl.edesr := by
    simp only [State.coldEntries]
  have others : ∀ k, k ≠ 2 → s.coldEntries.ctl.edesr.getLsbD k = s.ctl.edesr.getLsbD k := by
    intro k hk
    rw [edesr]
    split
    · rw [edesrSet_getLsbD]; exact if_neg hk
    · rfl
  have enables : ∀ k, k ≤ 2 → s.cfg.dbg.doPD = false → s.coldEntries.ctl.edecr.getLsbD k = s.ctl.edecr.getLsbD k := by
    intro k hk hd
    have : s.coldEntries.ctl.edecr = s.ctl.edecr &&& ~~~(edecrCoreFields s.cfg ||| maskIf s.cfg.dbg.doPD (maskAt 2 1)) := by
      simp only [State.coldEntries]
    rw [this]
    refine and_not_getLsbD_of_not_mem (by omega) ?_
    rw [BitVec.getLsbD_or, edecrCoreFields_getLsbD _ _ (by omega), hd]
    interval_cases k <;> rfl
  obtain ⟨kept, osuc, rc, ss, ec⟩ := edesrAfterWarm_fields s.coldEntries
  rw [s.coldEntries_cfg] at rc ss ec
  rw [s.coldEntries_env] at rc
  refine ⟨osuc, rc.trans ?_, ss.trans ?_, ec.trans ?_, kept.trans ?_⟩
  · cases hd : s.cfg.dbg.doPD
    · exact enables 1 (by decide) hd
    · rfl
  · cases hd : s.cfg.dbg.doPD
    · exact enables 2 (by decide) hd
    · rw [edesr, hd, if_pos rfl, if_pos rfl, edesrSet_getLsbD]; rfl
  · rw [others 3 (by decide)]
  · exact extractLsb'_congr fun k hk _ => others k (by omega)

end Cold

section ColdArrays

variable (s : State) (n : Index)

theorem coldReset_bcr :
    s.coldReset.bcr n = merge ((bcrFields s.cfg n).setWidth 64) (s.bcr n) (s.free64 (.bcr n.toNat)) := by
  simp [State.bcr, State.coldReset, State.warmEntries, State.coldEntries]

theorem coldReset_wcr :
    s.coldReset.wcr n = merge ((wcrFields s.cfg).setWidth 64) (s.wcr n) (s.free64 (.wcr n.toNat)) := by
  simp [State.wcr, State.coldReset, State.warmEntries, State.coldEntries]

theorem coldReset_wvr : s.coldReset.wvr n = merge (wvrFields s.cfg) (s.wvr n) (s.free64 (.wvr n.toNat)) := by
  simp [State.wvr, State.coldReset, State.warmEntries, State.coldEntries]

end ColdArrays

/-- A bit of a control register that no field covers. -/
theorem merge_setWidth_getLsbD {fields : Word} {field : Nat → Bool} (hf : ∀ k, k < 32 → fields.getLsbD k = field k)
    (old new : Dword) {k : Nat} (h : 32 ≤ k ∨ field k = false) :
    (merge (fields.setWidth 64) old new).getLsbD k = old.getLsbD k := by
  have out : (fields.setWidth 64).getLsbD k = false := by
    rw [BitVec.getLsbD_setWidth]
    by_cases hk : k < 32
    · rw [hf k hk, h.resolve_left (by omega), Bool.and_false]
    · rw [BitVec.getLsbD_of_ge fields k (by omega), Bool.and_false]
  rw [merge_getLsbD, out, if_neg Bool.false_ne_true]

theorem wvrFields_low (c : Config) {k : Nat} (hk : k < 2) : (wvrFields c).getLsbD k = false := by
  rw [wvrFields, BitVec.getLsbD_or, maskIf_getLsbD, ressMask_getLsbD, vaTop_eq, dmask_getLsbD _ _ _ (topBit_lt c),
    decide_eq_false (by omega), Bool.false_or]
  have : 48 ≤ topBit c := by
    simp only [topBit]
    split
    · omega
    · split <;> omega
  rw [decide_eq_false (by omega), Bool.and_false]

/-- Settles O58: the Cold entries, then the Warm entries. -/
theorem coldReset : Obligations.ColdReset := by
  intro s t
  obtain ⟨osuc, rc, ss, ec, high⟩ := coldReset_edesr_fields s
  have edscr {k : Nat} (hk : k < 32) (h : k = 6 ∨ k = 26 ∨ k = 27 ∨ k = 29 ∨ k = 30 ∨ edscrField s.cfg k = true)
      (h25 : k ≠ 25) : t.ctl.edscr.getLsbD k = false :=
    (coldReset_edscr_getLsbD s h25).trans (edscrAfterCold_getLsbD s hk h)
  refine ⟨rfl, rfl, rfl, rfl, rfl, rfl, rfl, rfl, rfl, rfl, rfl, rfl, rfl, rfl, coldReset_status s,
    edscr (by decide) (.inl rfl) (by decide), ?overrun, ?full, fun k hk hf => ?fields, fun k hk hf => ?edeccr,
    fun k hk hf => ?edscr2, fun k hk hf => ?edecrCore, osuc, rc, ss, ec, high, coldReset_editctrl s, fun ha hd => ?acrReset,
    fun h => ?acrKept, fun hd => ⟨?ss, ?npdPD⟩, fun hd => ⟨fun k hk => ?edecr, ?npd, ?purq⟩,
    fun n k hk => ⟨fun h => ?bcr, fun h => ?wcr, fun h => ?wvr⟩,
    s.coldEntries.warmEntries_pe.trans s.coldEntries_pe, s.coldEntries.warmEntries_auth.trans s.coldEntries_auth,
    s.coldEntries.warmEntries_env.trans s.coldEntries_env, s.coldEntries.warmEntries_cfg.trans s.coldEntries_cfg,
    s.coldEntries.warmEntries_sampleAddr.trans s.coldEntries_sampleAddr, s.coldEntries.warmEntries_lateControls⟩
  case overrun =>
    refine BitVec.eq_of_getLsbD_eq fun k hk => ?_
    rw [BitVec.getLsbD_extractLsb', edscr (by omega) (by omega) (by omega)]
    interval_cases k <;> rfl
  case full =>
    refine BitVec.eq_of_getLsbD_eq fun k hk => ?_
    rw [BitVec.getLsbD_extractLsb', edscr (by omega) (by omega) (by omega)]
    interval_cases k <;> rfl
  case fields => exact edscr hk (by simp only [hf, or_true]) (by rintro rfl; simp [edscrField] at hf)
  case edeccr => exact coldReset_edeccr s ▸ and_not_getLsbD_of_mem ((edeccrFields_getLsbD _ _ hk).trans hf)
  case edscr2 => exact coldReset_edscr2 s ▸ and_not_getLsbD_of_mem ((edscr2Fields_getLsbD _ _ hk).trans hf)
  case edecrCore =>
    refine coldReset_edecr s ▸ and_not_getLsbD_of_mem ?_
    rw [BitVec.getLsbD_or, edecrCoreFields_getLsbD _ _ hk, hf, Bool.true_or]
  case acrReset =>
    refine (coldReset_acrReset s).trans (Eq.trans ?_ (coldReset_edacr s).symm)
    rw [ha, hd]; rfl
  case acrKept =>
    have elsewhere : (s.cfg.has.edacr && s.cfg.has.edacrDomain = .core) = false := by
      rcases h with h | h <;> simp [h]
    exact ⟨(coldReset_edacr s).trans (by rw [elsewhere]; rfl), (coldReset_acrReset s).trans (by rw [elsewhere]; rfl)⟩
  case ss =>
    refine coldReset_edecr s ▸ and_not_getLsbD_of_mem ?_
    rw [BitVec.getLsbD_or, hd, show (maskIf true (maskAt 2 1)).getLsbD 2 = true from rfl, Bool.or_true]
  case npdPD =>
    refine (congrArg (·.getLsbD 0) (coldReset_edprcr s)).trans ?_
    simp only [setBit_getLsbD, if_true, corenpdrqResetValue_eq, hd]
    simp
  case edecr =>
    refine coldReset_edecr s ▸ and_not_getLsbD_of_not_mem (by omega) ?_
    rw [BitVec.getLsbD_or, edecrCoreFields_getLsbD _ _ (by omega), hd]
    interval_cases k <;> rfl
  case npd =>
    refine (congrArg (·.getLsbD 0) (coldReset_edprcr s)).trans ?_
    simp only [setBit_getLsbD, if_true, corenpdrqResetValue_eq, hd]
    simp
  case purq =>
    refine (congrArg (·.getLsbD 3) (coldReset_edprcr s)).trans ?_
    simp only [setBit_getLsbD]
    rfl
  case bcr => exact (congrArg (·.getLsbD k) (coldReset_bcr s n)).trans (merge_setWidth_getLsbD (bcrFields_getLsbD s.cfg n) _ _ h)
  case wcr => exact (congrArg (·.getLsbD k) (coldReset_wcr s n)).trans (merge_setWidth_getLsbD (wcrFields_getLsbD s.cfg) _ _ h)
  case wvr =>
    refine (congrArg (·.getLsbD k) (coldReset_wvr s n)).trans ?_
    simp only [merge_getLsbD, wvrFields_low s.cfg h, Bool.false_eq_true, if_false]

/-! ## External debug reset and leaving reset -/

section DebugReset

variable {s : State}

/-- What an External debug reset writes, without FEAT_DoPD (70 R863). -/
def debugResetWritten (s : State) : State :=
  { s with
    ctl :=
      { s.ctl with
        edecr := s.ctl.edecr &&& ~~~7
        edprcr := s.ctl.edprcr &&& ~~~8
        edacr := if s.cfg.has.edacr = true ∧ s.cfg.has.edacrDomain = .debug then s.free32 .edacr else s.ctl.edacr
        editctrl := if s.cfg.has.editctrlDomain = .debug then s.ctl.editctrl &&& ~~~1 else s.ctl.editctrl }
    hal := { s.hal with ssLoose := s.hal.ssLoose || (!s.hal.halted && s.ctl.edecr.getLsbD 2) }
    lock := { s.lock with slk := s.lock.slk || s.cfg.has.softwareLock }
    acrReset :=
      if s.cfg.has.edacr = true ∧ s.cfg.has.edacrDomain = .debug then s.free32 .edacr else s.acrReset }

theorem ite_and_decide {α : Type} (b : Bool) (p : Prop) [Decidable p] (x y : α) :
    (if b && decide p then x else y) = if b = true ∧ p then x else y := by
  simp

theorem externalDebugReset_eq (hd : s.cfg.dbg.doPD = false) :
    s.externalDebugReset = (debugResetWritten s).settle (bitsOf .edecr 7) := by
  have lock : (if s.cfg.hasSoftwareLock then true else s.lock.slk) = (s.lock.slk || s.cfg.has.softwareLock) := by
    cases hs : s.cfg.has.softwareLock <;> simp [Config.hasSoftwareLock, hs, hd]
  have acr (x y : Word) : (if s.cfg.has.edacr && s.cfg.has.edacrDomain = .debug then x else y) =
      if s.cfg.has.edacr = true ∧ s.cfg.has.edacrDomain = .debug then x else y := ite_and_decide _ _ x y
  have nested (x y z : Word) : (if s.cfg.has.edacr = true ∧ s.cfg.has.edacrDomain = .debug then
      (if s.cfg.has.edacr = true ∧ s.cfg.has.edacrDomain = .debug then x else y) else z) =
      if s.cfg.has.edacr = true ∧ s.cfg.has.edacrDomain = .debug then x else z := by
    split <;> rfl
  simp only [State.externalDebugReset, hd, Bool.false_eq_true, if_false, lock, acr, nested]
  rfl

theorem leaveReset_eq (h : s.power.inReset = true) :
    s.leaveReset =
      { s with
        power := { s.power with inReset := false }
        smp := { s.smp with first := true }
        hal := { s.hal with resetCatchDue := s.ctl.edesr.getLsbD 1 && s.env.haltingAllowed } } := by
  have pending : s.isPending .rc = s.ctl.edesr.getLsbD 1 :=
    Bool.eq_iff_iff.2 ((isPending_iff s .rc).trans (and_iff_right rfl))
  rw [State.leaveReset, if_pos h, pending]

end DebugReset

/-- Settles O59: each step from its own definition. -/
theorem externalDebugResetAndLeavingReset : Obligations.ExternalDebugResetAndLeavingReset := by
  intro s acrHere
  refine ⟨fun hd => ?doPD, fun hd => ⟨s.free32 .edacr, ?_⟩, leaveReset_eq, fun h => ?out⟩
  case doPD =>
    show s.externalDebugReset = s
    rw [State.externalDebugReset, hd]; rfl
  case out =>
    show s.leaveReset = s
    rw [State.leaveReset, h]; rfl
  · rw [show agentStep .externalDebugReset s = _ from externalDebugReset_eq hd]
    exact ⟨settles_settle (debugResetWritten s) _, rfl⟩

/-! ## Core power -/

section Power

variable {s : State}

theorem powerDownCore_of_requested
    (h : (s.cfg.dbg.doPD = false ∧ s.ctl.edprcr.getLsbD 3 = true) ∨ s.ctl.edprcr.getLsbD 0 = true) : s.powerDownCore = s := by
  refine if_neg fun guard => ?_
  simp only [Bool.and_eq_true, Bool.not_eq_true', State.corepurq, State.corenpdrq, Bool.and_eq_false_iff,
    Bool.not_eq_false'] at guard
  obtain ⟨⟨-, purq⟩, npdrq⟩ := guard
  rcases h with ⟨hd, h3⟩ | h0
  · rcases purq with purq | purq
    · rw [hd] at purq; cases purq
    · rw [h3] at purq; cases purq
  · rw [h0] at npdrq; cases npdrq

theorem powerDownCore_of_allowed (hc : s.power.core ≠ .off) (h3 : s.cfg.dbg.doPD = true ∨ s.ctl.edprcr.getLsbD 3 = false)
    (h0 : s.ctl.edprcr.getLsbD 0 = false) :
    s.powerDownCore =
      { s with
        power := { s.power with core := .off }
        ctl := { s.ctl with edesr := s.ctl.edesr &&& ~~~edesrFields s.cfg } } := by
  refine if_pos ?_
  simp only [Bool.and_eq_true, Bool.not_eq_true', State.corepurq, State.corenpdrq, Bool.and_eq_false_iff,
    Bool.not_eq_false', bne_iff_ne]
  exact ⟨⟨hc, h3⟩, h0⟩

end Power

/-- Settles O60: each step from its own definition. -/
theorem corePower : Obligations.CorePower := by
  intro s
  refine ⟨powerDownCore_of_requested, fun h => ?off, fun hc h3 h0 => ⟨_, powerDownCore_of_allowed hc h3 h0, fun k hk => ?lost⟩,
    fun h => if_pos h, fun h => if_neg h, fun h => if_pos h, fun h => if_neg h, fun h => ?leave, fun h => if_neg h⟩
  case off =>
    show s.powerDownCore = s
    rw [State.powerDownCore, h]; rfl
  case lost =>
    rw [BitVec.getLsbD_and, BitVec.getLsbD_not, edesrFields_getLsbD _ _ hk, decide_eq_true hk, Bool.true_and]
  case leave =>
    refine ⟨if s.cfg.opt.corenpdrqRetentionReset then setBit s.ctl.edprcr 0 s.corenpdrqResetValue else s.ctl.edprcr,
      if_pos h, fun k _ h0 => ?_, fun hr => if_neg (Bool.eq_false_iff.1 hr), fun hr => ?_⟩
    · split
      · rw [setBit_getLsbD, if_neg h0]
      · rfl
    · rw [if_pos hr, setBit_getLsbD, if_pos rfl, corenpdrqResetValue_eq]
      simp

end Sys2Proof.Proofs.ResetAndPower
end

section
/-!
Debug state and the PE's side of the channel (`EnteringDebugState`, `LeavingDebugState`, `PendingEvents`,
`PeSideOfTheChannel`).
-/

namespace Sys2Proof.Proofs.DebugState

open Sys2Proof.Machine Sys2Proof.Safety Sys2Proof.Proofs.AgentRules Sys2Proof.Proofs.Transaction
open Sys2Proof.Proofs.EventControl (exceptionCatchEnabled_eq writesWord_edeccr)

/-! ## Restart and exit -/

section Exit

variable {s : State}

theorem stepRestartRequest_of_halted (hc : s.power.core = .powered) (hr : s.power.inReset = false) (hh : s.hal.halted = true) :
    s.stepRestartRequest = s.mapEdscr fun w => edscrWithStatus w statusRestarting := by
  rw [State.stepRestartRequest, (peActive_iff s).2 ⟨hc, hr⟩, hh]; rfl

theorem stepExitDebug_of_restarting (hc : s.power.core = .powered) (hr : s.power.inReset = false) (hh : s.hal.halted = true)
    (hst : s.status = statusRestarting) :
    s.stepExitDebug = (if s.ite then s else s.unfinishedOperation).exitDebugState := by
  rw [State.stepExitDebug, (peActive_iff s).2 ⟨hc, hr⟩, hh, hst]; rfl

theorem stepExitDebug_of_not_restarting (hst : s.status ≠ statusRestarting) : s.stepExitDebug = s := by
  rcases stepExitDebug_cases s with ⟨-, -, h, -⟩ | h
  · exact absurd h hst
  · exact h

/-- STATUS written: the bits above it stay. -/
theorem edscrWithStatus_high (w : Word) (st : BitVec 6) {k : Nat} (hk : 6 ≤ k) :
    (edscrWithStatus w st).getLsbD k = w.getLsbD k := by
  rw [edscrWithStatus_getLsbD, if_neg (by omega)]

end Exit

/-- Settles O54: with an operation outstanding, `unfinishedOperation` comes before the exit. -/
theorem leavingDebugState : Obligations.LeavingDebugState := by
  intro s hc hr hh exits
  refine ⟨⟨_, stepRestartRequest_of_halted hc hr hh, edscrWithStatus_status _ _, fun k hk _ => edscrWithStatus_high _ _ hk⟩,
    fun hst hite => ?idle, fun hst hite => ?outstanding, fun hst => stepExitDebug_of_not_restarting hst⟩
  case idle =>
    have exit := stepExitDebug_of_restarting hc hr hh hst
    rw [show s.ite = true from hite, if_pos rfl] at exit
    exact ⟨_, _, _, exit, edscrWithStatus_status _ _, fun k hk _ _ => edscrWithStatus_high _ _ hk⟩
  case outstanding =>
    have exit := stepExitDebug_of_restarting hc hr hh hst
    obtain ⟨rx, tx, w, unfinished, kept⟩ := unfinishedOperation_frame s
    rw [show s.ite = false from hite, if_neg Bool.false_ne_true, unfinished] at exit
    exact ⟨rx, tx, _, _, _, exit, edscrWithStatus_status _ _,
      fun k hk hk' hfree => (edscrWithStatus_high _ _ hk).trans (kept k hk' hfree)⟩

/-! ## Pending events -/

section Pending

variable {s : State}

/-- The event that taking a pending one reports has that event's bit. -/
theorem reason_pending (f : PendingEvent) (k : StepKind) : (f.reason k).pending = some f := by
  cases f <;> rfl

theorem stepTakePending_of_pending {f : PendingEvent} {k : StepKind} (hc : s.canHalt (f.reason k) = true)
    (hf : s.isPending f = true) : s.stepTakePending f k = s.enterDebugState (f.reason k) := by
  rw [State.stepTakePending, hc, hf]; rfl

/-- An event that the PE generates while it cannot take it is made pending. -/
theorem stepEventPending_of_generated {r : HaltReason} {f : PendingEvent} (hr : r.pending = some f) (he : s.executing = true)
    (hg : s.seen.generates r = true) (hc : s.canHalt r = false) :
    s.stepEventPending r = s.mapEdesr fun w => edesrSet w f true := by
  rw [State.stepEventPending, he, hg, hc, hr]; rfl

theorem stepEventPending_of_not_generated {r : HaltReason} (hg : s.seen.generates r = false) : s.stepEventPending r = s := by
  rcases stepEventPending_cases s r with ⟨f, -, -, h, -⟩ | h
  · rw [hg] at h; cases h
  · exact h

/-- While halting is not allowed no event can be taken, and no Reset Catch comes first. -/
theorem canHalt_eq_false (h : s.env.haltingAllowed = false) (r : HaltReason) : s.canHalt r = false := by
  refine Bool.eq_false_iff.2 fun hc => ?_
  obtain ⟨-, -, -, allowed, -⟩ := (canHalt_iff s r).1 hc
  rw [h] at allowed; cases allowed

theorem executes_of_haltingProhibited (hc : s.power.core = .powered) (hr : s.power.inReset = false)
    (h : s.env.haltingAllowed = false) : Executes s :=
  ⟨hc, hr, fun ⟨_, _, allowed, _⟩ => by rw [h] at allowed; cases allowed⟩

theorem generates_exceptionCatch (s : State) (el : BitVec 2) (ss : SecState) (kind : CatchKind) :
    s.seen.generates (.exceptionCatch el ss kind) = (s.cfg.dbg.debugv8p8 && catchEnabled s.cfg s.seen.ctl.edeccr el ss kind) := by
  rw [State.generates, exceptionCatchEnabled_eq, State.seen_cfg]

/-- Where an event can be taken, it is not made pending: only a Reset Catch that comes first stands in the way. -/
theorem stepEventPending_of_allowed (hc : s.power.core = .powered) (hr : s.power.inReset = false) (hh : s.hal.halted = false)
    (h : s.env.haltingAllowed = true) (r : HaltReason) : s.stepEventPending r = s := by
  rcases stepEventPending_cases s r with ⟨f, -, he, -, hn, -⟩ | hs
  · have first := ((executing_iff s).1 he).2.2
    rw [(canHalt_iff s r).2 ⟨hc, hr, hh, h, .inl first⟩] at hn
    cases hn
  · exact hs

end Pending

/-- Settles O55: each step from its enabling condition. -/
theorem pendingEvents : Obligations.PendingEvents := by
  intro s f k el ss kind hc hr
  refine ⟨fun hh ha hf hb first => ?take, fun hb => ?none, fun hh ha => ⟨fun hss => ?step, fun h8 he => ?excCatch, fun h => ?quiet⟩,
    fun hh ha r => stepEventPending_of_allowed hc hr hh ha r⟩
  case take =>
    have can : s.canHalt (f.reason k) = true :=
      (canHalt_iff s _).2 ⟨hc, hr, hh, ha, first.imp_right fun h => by rw [h]; rfl⟩
    have taken : agentStep (.takePending f k) s = s.enterDebugState (f.reason k) :=
      stepTakePending_of_pending can ((isPending_iff s f).2 ⟨hf, hb⟩)
    rw [taken]
    refine ⟨s.enterDebugState_halted _, ?_⟩
    show (match (f.reason k).pending with
      | some f => if (edesrFields s.cfg).getLsbD f.bit then edesrSet s.ctl.edesr f false else s.ctl.edesr
      | none => s.ctl.edesr) = _
    have bound : f.bit < 32 := by cases f <;> decide
    rw [reason_pending]
    exact if_pos ((edesrFields_getLsbD s.cfg f.bit bound).trans hf)
  case none =>
    rcases stepTakePending_cases s f k with ⟨-, h, -⟩ | h
    · rw [((isPending_iff s f).1 h).2] at hb; cases hb
    · exact h
  case step =>
    have executing := (executing_iff s).2 (executes_of_haltingProhibited hc hr ha)
    refine stepEventPending_of_generated (r := .haltingStep k) rfl executing ?_ (canHalt_eq_false ha _)
    rw [State.generates, State.stepEnable, hss, Bool.true_or]
  case excCatch =>
    have executing := (executing_iff s).2 (executes_of_haltingProhibited hc hr ha)
    refine stepEventPending_of_generated (r := .exceptionCatch el ss kind) rfl executing ?_ (canHalt_eq_false ha _)
    rw [generates_exceptionCatch, h8, he, Bool.and_self]
  case quiet =>
    refine stepEventPending_of_not_generated ?_
    rw [generates_exceptionCatch]
    rcases h with h | h <;> simp only [h, Bool.false_and, Bool.and_false]

/-! ## The PE's side of the DCC and the ITR -/

section Channel

variable {s : State}

/-- A step of a Memory access mode operation, where one has not completed. -/
theorem stepMemoryAccess_of_busy {p : PeView} {e : Env} (ha : s.peActive = true) (hh : s.hal.halted = true)
    (hm : s.dcc.memoryOp = true) (hi : s.ite = false) (hl : LegalView s.cfg p) :
    s.stepMemoryAccess p e = (s.withPeEffect p e).memoryModeEffects := by
  rw [State.stepMemoryAccess, ha, hh, hm, hi, (isLegal_iff s.cfg p).2 hl]; rfl

/-- The operation that it goes on with is noted already. -/
theorem memoryModeEffects_of_noted (h : s.dcc.memoryOp = true) :
    ∃ w rx tx, s.memoryModeEffects =
        { s with dcc := { s.dcc with dtrrx := rx, dtrtx := tx }, ctl := { s.ctl with edscr := w } } ∧
      ∀ k, k < 32 → k ∉ [6, 24, 26, 27, 28, 29, 30] → w.getLsbD k = s.ctl.edscr.getLsbD k := by
  obtain ⟨rx, tx, w, effects, kept⟩ := memoryModeEffects_frame s
  refine ⟨w, rx, tx, effects.trans ?_, kept⟩
  rw [h, Bool.true_or, ← h]

/-- A write by PE software of a register that no PE control is in. -/
theorem stepSysWrite_of_plain {r : SysReg} (he : Executes s) (hr : r.reachable s.cfg s.usingAA64 = true)
    (ht : r.trappedByTDA = false) (hw : r.written = fun _ => 0) (v : Dword) : s.stepSysWrite r v = s.sysRegWritten r v := by
  rw [stepSysWrite_of_untrapped he hr (.inl ht), hw, settle_none]

end Channel

/-- Settles O56: each step from its enabling condition and its effect. -/
theorem peSideOfTheChannel : Obligations.PeSideOfTheChannel := by
  intro s v e x he
  have executing := (executing_iff s).2 he
  have active := (peActive_iff s).2 ⟨he.1, he.2.1⟩
  refine ⟨fun h => ?takeRx, fun h => ?noRx, fun h => ?putTx, fun h => ?noTx, rfl, fun hh hma hite hm hi hl => ?itr, fun h => ?noItr,
    fun hh hm hite hl => ?memory, fun h => ?noMemory, stepSysWrite_of_plain he rfl rfl rfl x,
    stepSysWrite_of_plain he rfl rfl rfl x, fun hp => ?oseccr, ?dbgprcr⟩
  case takeRx => exact if_pos (by rw [executing, State.rxfull, h]; rfl)
  case noRx => exact if_neg (by rw [State.rxfull, h, Bool.and_false]; exact Bool.false_ne_true)
  case putTx => exact if_pos (by rw [executing, State.txfull, h]; rfl)
  case noTx => exact if_neg (by rw [State.txfull, h, Bool.not_true, Bool.and_false]; exact Bool.false_ne_true)
  case itr =>
    refine ⟨_, stepTakeItr_of_waits ⟨active, hh, hma, hite, hm, hi, hl⟩, ?_⟩
    simp only [edscrAfterItr_getLsbD]
    refine ⟨rfl, rfl, rfl, rfl, fun k _ h24 h30 h29 h6 => ?_⟩
    simp only [h24, h30, h29, h6, if_false]
  case noItr =>
    rcases stepTakeItr_cases s e with ⟨waits, -⟩ | ⟨-, hs⟩
    · rcases h with h | h | h
      · exact absurd waits.instruction h
      · exact absurd (h.symm.trans waits.waits) (by decide)
      · exact absurd (h.symm.trans waits.word) (by decide)
    · exact hs
  case memory =>
    obtain ⟨w, rx, tx, effects, kept⟩ := memoryModeEffects_of_noted (s := s.withPeEffect e.pe e.env) hm
    exact ⟨w, rx, tx, (stepMemoryAccess_of_busy active hh hm hite hl).trans effects, kept⟩
  case noMemory =>
    rcases stepMemoryAccess_cases s e.pe e.env with ⟨hh, hm, hi, -, -⟩ | hs
    · rcases h with h | h | h
      · exact absurd (h.symm.trans hh) (by decide)
      · exact absurd (h.symm.trans hm) (by decide)
      · exact absurd (h.symm.trans hi) (by decide)
    · exact hs
  case oseccr =>
    have stored : agentStep (.sysWrite .oseccr x) s = (writeEdeccrFields (loHalf x) s).settle (bitsOf .edeccr (dmask 31 0)) :=
      stepSysWrite_of_untrapped he rfl (.inl rfl) x
    refine ⟨(writeEdeccrFields (loHalf x) s).ctl.edeccr, ?_, writesWord_edeccr hp (loHalf x)⟩
    rw [stored]
    exact ⟨settles_settle (writeEdeccrFields (loHalf x) s) _, rfl⟩
  case dbgprcr =>
    refine ⟨setBit s.ctl.edprcr 0 (x.getLsbD 0), stepSysWrite_of_plain he rfl rfl rfl x, fun k hk => ?_⟩
    rw [setBit_getLsbD]
    by_cases h : k = 0
    · subst h; simp [-BitVec.getLsbD_eq_getElem]
    · simp only [h, if_false, decide_false, Bool.false_eq_true]

/-! ## Entry to Debug state -/

section Entry

variable {s : State}

theorem stepEnterDebug_of_enabled {r : HaltReason} (hc : s.canHalt r = true) (he : s.seen.eventEnabled r = true) :
    s.stepEnterDebug r = s.enterDebugState r := by
  rw [State.stepEnterDebug, hc, he]; rfl

/-- The mask of EDSCR.MA. -/
theorem dmask_ma : dmask 20 20 = 0x100000 := by decide

theorem settles_enterDebugState (s : State) (r : HaltReason) :
    Settles s (s.enterDebugState r) (bitsOf .edscr 0x100000) := by
  rw [Settles, State.enterDebugState_lateControls, dmask_ma]
  rfl

/-- MA is 0 for the PE too, whatever the debugger wrote before (47 R713). -/
theorem enterDebugState_seen_ma (s : State) (r : HaltReason) : (s.enterDebugState r).seen.ctl.edscr.getLsbD 20 = false := by
  obtain ⟨-, -, -, -, ⟨v, hv, hseen⟩, -⟩ := seen_controls (s.enterDebugState r)
  have control : edscrControls.getLsbD 20 = true := by decide
  have settled : v.getLsbD 20 = ((s.enterDebugState r).control .edscr).getLsbD 20 := by
    rcases (mem_visible_iff _ _ _).1 hv with rfl | late
    · rfl
    · rw [State.enterDebugState_lateControls, List.mem_map] at late
      obtain ⟨p, -, hp⟩ := late
      obtain ⟨hr, rfl⟩ := Prod.mk.inj hp
      have written : (bitsOf .edscr (dmask 20 20) .edscr).getLsbD 20 = true := by decide
      rw [merge_getLsbD, hr, written, if_pos rfl]
  have clear : ((s.enterDebugState r).control .edscr).getLsbD 20 = false := by
    show ((edscrEnterDebug s.ctl.edscr r.status &&& edscrControls).setWidth 64).getLsbD 20 = false
    rw [BitVec.getLsbD_setWidth, BitVec.getLsbD_and, edscrEnterDebug_getLsbD]
    rfl
  rw [hseen, merge_getLsbD, control, if_pos rfl, loHalf_getLsbD, settled, clear, Bool.and_false]

/-- SDD is latched from the authentication that the PE acts on (47 R717). -/
theorem sddOnEntry_eq (s : State) :
    s.sddOnEntry =
      if s.cfg.sys.rme then decide (s.pe.el ≠ 3) && !s.authSeen.rootInvasive
      else decide (s.pe.ss ≠ .secure) && !s.authSeen.secureInvasive := by
  rw [State.sddOnEntry]
  by_cases hel : s.pe.el = 3 <;> by_cases hss : s.pe.ss = .secure <;> simp [hel, hss]

theorem enterDebugState_hal (s : State) (r : HaltReason) :
    (s.enterDebugState r).hal =
      { s.hal with
        halted := true, sdd := s.sddOnEntry, ssLoose := false, resetCatchDue := false
        edwar := (s.enterDebugState r).hal.edwar, edwarAA32 := (s.enterDebugState r).hal.edwarAA32
        edhsr := (s.enterDebugState r).hal.edhsr } := by
  cases r <;> rfl

end Entry

/-! ## The syndrome of a watchpoint -/

section Syndrome

variable (c : Config) (n : Index) (lsc : BitVec 2) (a : DataAccess)

/-- EDHSR before WPT is filled in. -/
def syndromeBase : Dword :=
  let v := setBit (setBit a.syndrome 8 (decide (a.kind = .cacheMaintenance))) 6 (a.kind.wnr lsc)
  let v := v &&& edhsrFields c
  let v := if c.sys.sve || c.sys.sme then v else v &&& ~~~(dmask 16 15 ||| dmask 10 10)
  let v := if c.sys.nv2 then v else v &&& ~~~dmask 13 13
  if c.dbg.debugv8p9 then setBit v 17 true else v

theorem watchSyndrome_eq :
    watchSyndrome c n lsc a =
      if (syndromeBase c lsc a).getLsbD 17 then merge (dmask 23 18) (syndromeBase c lsc a) (n.setWidth 64 <<< 18)
      else syndromeBase c lsc a := rfl

/-- The fields of EDHSR that the PE writes on this implementation. -/
def syndromeField (k : Nat) : Bool :=
  ((c.dbg.gcs && c.dbg.debugv8p9 && decide (k = 40)) || decide (15 ≤ k ∧ k ≤ 23) ||
    (c.dbg.debugv8p9 && (decide (k = 13) || decide (k = 8) || decide (k = 6))) || decide (k = 10)) &&
    (c.sys.sve || c.sys.sme || !(decide (15 ≤ k ∧ k ≤ 16) || decide (k = 10))) && (c.sys.nv2 || !decide (k = 13))

/-- What the PE reports in a field: CM and WnR by the kind of the access. -/
def syndromeBit (k : Nat) : Bool :=
  if k = 6 then a.kind.wnr lsc else if k = 8 then decide (a.kind = .cacheMaintenance) else a.syndrome.getLsbD k

theorem edhsrFields_getLsbD (k : Nat) :
    (edhsrFields c).getLsbD k =
      ((c.dbg.gcs && c.dbg.debugv8p9 && decide (k = 40)) || decide (15 ≤ k ∧ k ≤ 23) ||
        (c.dbg.debugv8p9 && (decide (k = 13) || decide (k = 8) || decide (k = 6))) || decide (k = 10)) := by
  have one (j : Nat) (hj : j < 64) : (dmask j j).getLsbD k = decide (k = j) := by
    rw [dmask_getLsbD _ _ _ hj]
    exact decide_eq_decide.2 (by omega)
  simp only [edhsrFields, BitVec.getLsbD_or, maskIf_getLsbD, one 40 (by decide), one 13 (by decide), one 8 (by decide),
    one 6 (by decide), one 10 (by decide), dmask_getLsbD 23 15 k (by decide)]

theorem syndromeBase_getLsbD {k : Nat} (hk : k < 64) :
    (syndromeBase c lsc a).getLsbD k =
      ((decide (k = 17) && c.dbg.debugv8p9) || (syndromeField c k && syndromeBit lsc a k)) := by
  have keep (b : Bool) (v m : Dword) :
      (if b then v else v &&& ~~~m).getLsbD k = (v.getLsbD k && (b || !m.getLsbD k)) := by
    cases b
    · simp [-BitVec.getLsbD_eq_getElem, hk]
    · simp
  have wptv (b : Bool) (v : Dword) :
      (if b then setBit v 17 true else v).getLsbD k = ((decide (k = 17) && b) || v.getLsbD k) := by
    cases b
    · simp
    · rw [if_pos rfl, setBit_getLsbD]
      by_cases h : k = 17 <;> simp [h]
  have reported : (setBit (setBit a.syndrome 8 (decide (a.kind = .cacheMaintenance))) 6 (a.kind.wnr lsc)).getLsbD k =
      syndromeBit lsc a k := by
    simp only [setBit_getLsbD, syndromeBit, Nat.reduceLT, decide_true, Bool.and_true]
  have sveSme : (dmask 16 15 ||| dmask 10 10).getLsbD k = (decide (15 ≤ k ∧ k ≤ 16) || decide (k = 10)) := by
    rw [BitVec.getLsbD_or, dmask_getLsbD _ _ _ (by decide), dmask_getLsbD _ _ _ (by decide)]
    congr 1
    exact decide_eq_decide.2 (by omega)
  have nv2 : (dmask 13 13).getLsbD k = decide (k = 13) := by
    rw [dmask_getLsbD _ _ _ (by decide)]
    exact decide_eq_decide.2 (by omega)
  simp only [syndromeBase, wptv, keep, BitVec.getLsbD_and, edhsrFields_getLsbD, sveSme, nv2, reported, syndromeField]
  cases syndromeBit lsc a k <;> simp

/-- Every field but WPT. -/
theorem watchSyndrome_getLsbD {k : Nat} (hk : k < 64) (hw : ¬(18 ≤ k ∧ k ≤ 23)) :
    (watchSyndrome c n lsc a).getLsbD k =
      ((decide (k = 17) && c.dbg.debugv8p9) || (syndromeField c k && syndromeBit lsc a k)) := by
  rw [watchSyndrome_eq, ← syndromeBase_getLsbD c lsc a hk]
  split
  · rw [merge_getLsbD, dmask_getLsbD _ _ _ (by decide), decide_eq_false hw, if_neg Bool.false_ne_true]
  · rfl

/-- WPT, where WPTV says that it is valid. -/
theorem watchSyndrome_wpt (h : (watchSyndrome c n lsc a).getLsbD 17 = true) :
    (watchSyndrome c n lsc a).extractLsb' 18 6 = n := by
  have wptv : (syndromeBase c lsc a).getLsbD 17 = true := by
    rw [syndromeBase_getLsbD c lsc a (by decide), ← watchSyndrome_getLsbD c n lsc a (by decide) (by decide), h]
  rw [watchSyndrome_eq, if_pos wptv]
  apply BitVec.eq_of_getLsbD_eq
  intro k hk
  rw [BitVec.getLsbD_extractLsb', merge_getLsbD, dmask_getLsbD _ _ _ (by decide),
    decide_eq_true (show 18 ≤ 18 + k ∧ 18 + k ≤ 23 by omega), if_pos rfl, BitVec.getLsbD_shiftLeft, BitVec.getLsbD_setWidth, decide_eq_true hk, decide_eq_true (show 18 + k < 64 by omega),
    decide_eq_false (show ¬18 + k < 18 by omega), Nat.add_sub_cancel_left, decide_eq_true (show k < 64 by omega)]
  simp

end Syndrome

/-- What entry to Debug state for a watchpoint records in EDHSR. -/
theorem enterDebugState_edhsr {s : State} (h : s.cfg.dbg.edhsr = true) (n : Index) (a : DataAccess) (control : BitVec 6) :
    (s.enterDebugState (.watchpoint n a control)).hal.edhsr = watchSyndrome s.cfg n (s.seen.lsc n) a := by
  show (if s.cfg.dbg.edhsr then s.seen.syndromeOf n a else s.hal.edhsr) = _
  rw [h, if_pos rfl, State.syndromeOf, State.seen_cfg, h, if_pos rfl]

theorem wnr_eq (k : DataKind) (s : State) (n : Index) :
    k.wnr (s.lsc n) =
      match k with
      | .load => false
      | .store => true
      | .atomic => !(s.wcr n).getLsbD 3
      | .cacheMaintenance => true := by
  cases k with
  | atomic =>
    show (!(((s.wcr n).extractLsb' 3 2).getLsbD 0)) = _
    rw [BitVec.getLsbD_extractLsb']; rfl
  | _ => rfl

/-- Settles O53: an enabled event is taken, and entry writes, latches and records what it does. -/
theorem enteringDebugState : Obligations.EnteringDebugState := by
  intro s r hc hr hh ha first he
  have taken : agentStep (.enterDebug r) s = s.enterDebugState r :=
    stepEnterDebug_of_enabled ((canHalt_iff s r).2 ⟨hc, hr, hh, ha, first⟩) he
  have hal := enterDebugState_hal s r
  have sdd : (s.enterDebugState r).hal.sdd = s.sddOnEntry := by rw [hal]
  rw [taken]
  refine ⟨(s.enterDebugState r).ctl.edscr, (s.enterDebugState r).ctl.edesr, { s.smp with fresh := false },
    (s.enterDebugState r).hal, ⟨settles_enterDebugState s r, rfl⟩, enterDebugState_seen_ma s r, s.enterDebugState_halted r,
    edscrEnterDebug_status _ _, ?ito, ?ma, ?ite, fun k hk _ h28 h20 h24 => ?others,
    fun k hk => enterDebugState_edesr_getLsbD s r k hk, rfl, hal.trans (by rw [sdd]), ⟨s.authSeen, authSeen_mem s, ?sdd⟩,
    fun n a control hw => ?watchpoint⟩
  case ito => exact edscrEnterDebug_getLsbD _ _ 28
  case ma => exact edscrEnterDebug_getLsbD _ _ 20
  case ite => exact edscrEnterDebug_getLsbD _ _ 24
  case others =>
    refine (edscrEnterDebug_getLsbD _ _ k).trans ?_
    simp only [h28, h20, h24, show ¬k < 6 by omega, if_false]
  case sdd => exact sdd.trans (sddOnEntry_eq s)
  case watchpoint =>
    subst hw
    refine ⟨rfl, rfl, fun hd => ?_⟩
    rw [enterDebugState_edhsr hd]
    have bit {k : Nat} (hk : k < 64) (hw : ¬(18 ≤ k ∧ k ≤ 23)) := watchSyndrome_getLsbD s.cfg n (s.seen.lsc n) a hk hw
    refine ⟨?_, watchSyndrome_wpt _ _ _ _, ?_, ?_, ?_, ?_, ?_, ?wnr, ?_, fun k hk h1 h2 h3 h4 h5 h6 => ?zero⟩
    case zero =>
      rw [bit hk (by omega)]
      simp [-BitVec.getLsbD_eq_getElem, syndromeField, h1, h2, h3, h4, h5, h6, show k ≠ 17 by omega]
    case wnr =>
      have field : syndromeField s.cfg 6 = s.cfg.dbg.debugv8p9 := by simp [syndromeField]
      rw [bit (by decide) (by decide), field]
      exact congrArg (s.cfg.dbg.debugv8p9 && ·) (wnr_eq a.kind s.seen n)
    all_goals
      rw [bit (by decide) (by decide)]
      simp [-BitVec.getLsbD_eq_getElem, syndromeField, syndromeBit]

end Sys2Proof.Proofs.DebugState
end

section
/-!
PC sampling, and the registers that are not there (`PcSample`, `SampleRegisters`, `AbsentRegisters`).
-/

namespace Sys2Proof.Proofs.Sample

open Sys2Proof.Machine Sys2Proof.Safety
open Sys2Proof.Proofs.EventControl (readOnly_write)
open Sys2Proof.Proofs.Ident (fieldAt_append fieldAt_zeros fieldAt_zero_eq_cast)

/-! ## What a sample holds -/

section Capture

variable {s : State}

theorem contextOf_eq (s : State) (r : ContextIds) :
    s.contextOf r =
      if s.pe.el1AA64 then r.el1
      else if s.cfg.pe.haveEL3 ∧ s.pe.el3AA64 = false ∧ s.pe.ss = .secure then r.aa32Secure
      else r.aa32NonSecure := by
  simp [State.contextOf, and_assoc]

theorem nsBit_eq (ss : SecState) : SecState.nsBit ss = decide (ss = .nonSecure ∨ ss = .realm) := by cases ss <;> rfl

theorem and_low_byte (v : BitVec 16) : v &&& 0x00FF = 0#8 ++ v.extractLsb' 0 8 := by
  apply BitVec.eq_of_getLsbD_eq
  intro k hk
  refine Eq.trans ?_ (BitVec.getLsbD_append (x := 0#8) (y := v.extractLsb' 0 8) (i := k)).symm
  rw [BitVec.getLsbD_and]
  interval_cases k <;> simp

theorem setWidth_byte (v : BitVec 8) : v.setWidth 16 = 0#8 ++ v := by
  apply BitVec.eq_of_getLsbD_eq
  intro k hk
  refine Eq.trans ?_ (BitVec.getLsbD_append (x := 0#8) (y := v) (i := k)).symm
  rw [BitVec.getLsbD_setWidth]
  by_cases h : k < 8
  · simp [h, hk]
  · simp [h, BitVec.getLsbD_of_ge v k (by omega)]

theorem vmidSample_eq (s : State) :
    s.vmidSample =
      if s.cfg.pe.haveEL2 = false ∨ s.pe.ss = .secure ∨ s.pe.el = 2 then 0
      else if s.pe.el2AA64 then
        (if s.cfg.sys.vmid16 = true ∧ s.pe.vtcrVS = true then s.pe.vmid else 0#8 ++ s.pe.vmid.extractLsb' 0 8)
      else 0#8 ++ s.pe.vmid32 := by
  simp only [State.vmidSample, and_low_byte, setWidth_byte, Bool.or_eq_true, Bool.not_eq_true', decide_eq_true_eq,
    Bool.and_eq_true, or_assoc]

/-- EDVIDSR of a sample of the first format, bit by bit. -/
theorem vidsrSample_getLsbD (h : s.sc2 = false) {k : Nat} (hk : k < 32) :
    s.vidsrSample.getLsbD k =
      (SecState.nsBit s.pe.ss && decide (k = 31) || (s.cfg.pe.haveEL2 && decide (s.pe.el = 2)) && decide (k = 30) ||
        (s.cfg.pe.haveEL3 && s.cfg.dbg.aa64 && decide (s.pe.el = 3) && s.pe.el3AA64) && decide (k = 29) ||
        s.sampleHV && decide (k = 28) || s.vmidSample.getLsbD k) := by
  simp only [State.vidsrSample, sampleFormat2_eq, h, Bool.false_eq_true, if_false, BitVec.getLsbD_or, bitAt_getLsbD,
    fieldAt_getLsbD, hk, true_and, Nat.zero_le, decide_true, Bool.true_and, Nat.sub_zero]

/-- HV is 1 where the upper half of the address is not 0. -/
theorem sampleHV_of_high (h : hiHalf s.sampleAddr ≠ 0) : s.sampleHV = true := by
  rw [State.sampleHV, bne_iff_ne.2 h, Bool.true_or]

/-- EDPCSR[63:32] of the second format. -/
theorem pcsrHiSample_second (h : s.sc2 = true) :
    s.pcsrHiSample = BitVec.ofBool (SecState.nsBit s.pe.ss) ++ s.pe.el ++ 0#5 ++ s.sampleAddr.extractLsb' 32 24 := by
  have low : hiHalf s.sampleAddr &&& 0x00FFFFFF = fieldAt 0 (s.sampleAddr.extractLsb' 32 24) := by
    apply BitVec.eq_of_getLsbD_eq
    intro k hk
    rw [BitVec.getLsbD_and, hiHalf_getLsbD, fieldAt_getLsbD, decide_eq_true hk, BitVec.getLsbD_extractLsb']
    interval_cases k <;> simp
  refine Eq.trans ?_ (fieldAt_zero_eq_cast
    (BitVec.ofBool (SecState.nsBit s.pe.ss) ++ s.pe.el ++ 0#5 ++ s.sampleAddr.extractLsb' 32 24) rfl)
  simp only [State.pcsrHiSample, sampleFormat2_eq, h, if_true, low, fieldAt_append, fieldAt_zeros]
  simp [bitAt, fieldAt]

end Capture

/-! ## The read of EDPCSR[31:0] -/

/-- Settles O47: `pcsrRead` says what the read returns, `takeSample` what it captures. -/
theorem pcSample : Obligations.PcSample := by
  intro s ad hp p c lo hi prohibited live contextID ns vmid captured returns unknown
  have read (hu : Unlocked s) := execRdEdpcsrLo_of_unlocked ad hp hu
  have completes (hu : Unlocked s) {v : Word} {P : SampleRegs → Prop} (hv : s.pcsrRead.1 = v) (hP : P (s.takeSample ad)) :
      returns v P :=
    ⟨s.takeSample ad, hv ▸ read hu, (takeSample_flags s ad).1, (takeSample_flags s ad).2, hP⟩
  have sampled (hl : s.softLock ad = false) (hv : s.pcsrRead.2 = true) : captured (s.takeSample ad) := by
    rw [takeSample_of_sampled hl hv]
    refine ⟨?context, fun h1 => ?first, fun h2 => ?second⟩
    case context =>
      obtain ⟨r, hr, hs⟩ := contextSample_mem s
      exact ⟨r, hr, hs.trans (contextOf_eq s r)⟩
    case first =>
      have bit {k : Nat} (hk : k < 32) := vidsrSample_getLsbD h1 hk
      have small : ∀ k, 16 ≤ k → s.vmidSample.getLsbD k = false := fun k hk => BitVec.getLsbD_of_ge _ _ hk
      refine ⟨pcsrHiSample_first h1, (bit (by decide)).trans ?_, (bit (by decide)).trans ?_, (bit (by decide)).trans ?_,
        fun hh => (bit (by decide)).trans ?_, ?_, Eq.trans ?_ (vmidSample_eq s)⟩
      · rw [small 31 (by decide), nsBit_eq]; simp [ns, p]
      · rw [small 30 (by decide)]; simp [c, p]
      · rw [small 29 (by decide)]; simp [c, p]
      · rw [sampleHV_of_high hh, small 28 (by decide)]; simp
      · refine BitVec.eq_of_getLsbD_eq fun k hk => ?_
        rw [BitVec.getLsbD_extractLsb', bit (by omega), small _ (by omega)]
        interval_cases k <;> simp
      · refine BitVec.eq_of_getLsbD_eq fun k hk => ?_
        rw [BitVec.getLsbD_extractLsb', bit (by omega), Nat.zero_add, decide_eq_true hk]
        simp only [show k ≠ 31 by omega, show k ≠ 30 by omega, show k ≠ 29 by omega, show k ≠ 28 by omega, decide_false,
          Bool.and_false, Bool.or_self, Bool.false_or, Bool.true_and]
    case second =>
      refine ⟨(pcsrHiSample_second h2).trans (by rw [nsBit_eq]), fun hel haa hen => ?_⟩
      show s.vidsrSample = _
      have here : (s.pe.el != 3 && s.pe.el2AA64 && s.pe.el2Enabled) = true := by
        rw [bne_iff_ne.2 hel, haa, hen]; rfl
      rw [State.vidsrSample, sampleFormat2_eq, h2, if_pos rfl, if_pos here]
  refine ⟨fun hu => ?errors, fun hu hl hlive hf => ?live, fun hu hl hlive hf => ?liveFirst, fun hu hl hpr => ?prohibited,
    fun hu hl hpr hs => ?stale, fun hu hl => ?locked⟩
  case errors =>
    show Host.Outcome.next (if s.cfg.hasPcsr then _ else _) = _
    rw [if_pos hp, readReg_error _ _ (not_locked hu), raiseError_plain _ _ _ rfl]
  case live =>
    rcases pcsrRead_of_live hlive.1 hlive.2.1 hlive.2.2 with h | ⟨h, -⟩
    · exact completes hu (congrArg Prod.fst h) (sampled hl (congrArg Prod.snd h))
    · rw [hf] at h; cases h
  case liveFirst =>
    rcases pcsrRead_of_live hlive.1 hlive.2.1 hlive.2.2 with h | ⟨-, h⟩
    · exact .inl (completes hu (congrArg Prod.fst h) (sampled hl (congrArg Prod.snd h)))
    · exact .inr (completes hu (congrArg Prod.fst h) trivial)
  case prohibited => exact completes hu (congrArg Prod.fst (pcsrRead_of_prohibited hpr)) trivial
  case stale => exact ⟨_, completes hu rfl trivial⟩
  case locked =>
    refine ⟨s.pcsrRead.1, takeSample_of_locked hl ▸ read hu, fun hpr => congrArg Prod.fst (pcsrRead_of_prohibited hpr),
      fun hlive => ?_⟩
    rcases pcsrRead_of_live hlive.1 hlive.2.1 hlive.2.2 with h | ⟨hf, h⟩
    · exact .inl (congrArg Prod.fst h)
    · exact .inr ⟨hf, congrArg Prod.fst h⟩

/-! ## The captured words -/

section Registers

variable {s : State} {ad : AddrDesc} {present : Bool}

theorem readSampleReg_present (h : present = true) (v : State → Word) :
    readSampleReg present v ad s = readValue .locked .readOnly ad s v := if_pos h

theorem writeSampleReg_present (h : present = true) :
    writeSampleReg present ad s = writeReg .locked .readOnly ad s id := if_pos h

end Registers

/-- Settles O48: the registers are read-only under the clause `locked`. -/
theorem sampleRegisters : Obligations.SampleRegisters := by
  intro s d ad addr
  refine ⟨fun hp => ?pcsr, fun hp => ?vidsr, fun he hh hpr => ?branch, fun h => ?noBranch, fun hc hr => ?sync,
    seen_of_settled⟩
  case pcsr =>
    have write {i : Instr} (h : exec i s = .next (writeSampleReg s.cfg.hasPcsr i.ad s)) :=
      readOnly_write (h.trans (congrArg Host.Outcome.next (writeSampleReg_present hp)))
    have lo := write (i := .wrEdpcsrLo d ad) rfl
    have hi := write (i := .wrEdpcsrHi d ad) rfl
    have cid := write (i := .wrEdcidsr d ad) rfl
    exact ⟨lockedRead_of (congrArg Host.Outcome.next (readSampleReg_present hp _)) (.inl rfl) rfl,
      lockedRead_of (congrArg Host.Outcome.next (readSampleReg_present hp _)) (.inl rfl) rfl,
      fun hu => ⟨lo.1 hu, hi.1 hu, cid.1 hu⟩, fun hu => ⟨lo.2 hu, hi.2 hu, cid.2 hu⟩⟩
  case vidsr =>
    have write := readOnly_write (i := .wrEdvidsr d ad) (s := s) (congrArg Host.Outcome.next (writeSampleReg_present hp))
    exact ⟨lockedRead_of (congrArg Host.Outcome.next (readSampleReg_present hp _)) (.inl rfl) rfl, write.1, write.2⟩
  case branch => exact if_pos (by rw [(executing_iff s).2 he, hh, hpr]; rfl)
  case noBranch =>
    refine if_neg fun guard => ?_
    simp only [Bool.and_eq_true, Bool.not_eq_true'] at guard
    obtain ⟨⟨-, running⟩, allowed⟩ := guard
    rcases h with h | h
    · rw [h] at running; cases running
    · rw [h] at allowed; cases allowed
  case sync => exact if_pos ((peActive_iff s).2 ⟨hc, hr⟩)

/-! ## Registers that are not there -/

section Absent

variable {s : State} {ad : AddrDesc} {rs ws : List Instr}

/-- Registers that are not present meet 42 R381. -/
theorem res0Or_of_notPresent (hr : ∀ i ∈ rs, exec i s = .next (readNotPresent ad s))
    (hw : ∀ i ∈ ws, exec i s = .next (writeNotPresent ad s)) : Res0Or (Unlocked s) [errors s] rs ws s :=
  ⟨fun i hi => hr i hi ▸ readNotPresent_outcome ad s, fun i hi => hw i hi ▸ writeNotPresent_outcome ad s⟩

/-- Reserved words meet 30_encoding.md R190. -/
theorem res0Or_of_reserved (hr : ∀ i ∈ rs, exec i s = .next (readReserved ad s))
    (hw : ∀ i ∈ ws, exec i s = .next (writeReserved ad s)) :
    Res0Or (s.cfg.opt.reservedMayError = false ∨ Permitted s ad) [errors s] rs ws s :=
  ⟨fun i hi => hr i hi ▸ readReserved_outcome ad s, fun i hi => hw i hi ▸ writeReserved_outcome ad s⟩

/-- A transaction whose meaning is an alternative of which the condition is false. -/
theorem exec_of_absent {i : Instr} {b : Bool} {t u : State} (hb : b = false)
    (h : exec i s = .next (if b then t else u)) : exec i s = .next u := by
  rw [h, if_neg (Bool.eq_false_iff.1 hb)]

end Absent

/-- Settles O49: every one of these transactions takes its alternative for a register that is not there. -/
theorem absentRegisters : Obligations.AbsentRegisters := by
  intro s n d ad notPresent reserved
  refine ⟨fun h => ?pcsr, fun h => ?vidsr, fun h => ?edhsr, fun h => ?scr2, fun h hn => ?breakpoint, fun h hn => ?watchpoint,
    fun h => ?edacr, fun h => ?editctrl, fun h => ?ident⟩
  case breakpoint =>
    have here : (s.cfg.hasBreakpoint n && !s.cfg.dbg.debugv8p9) = true := by
      rw [h, show s.cfg.hasBreakpoint n = true from decide_eq_true hn]; rfl
    refine res0Or_of_reserved (ad := ad) ?_ ?_ <;> rw [List.forall_mem_singleton] <;>
      exact congrArg Host.Outcome.next (if_pos here)
  case watchpoint =>
    have here : (s.cfg.hasWatchpoint n && !s.cfg.dbg.debugv8p9) = true := by
      rw [h, show s.cfg.hasWatchpoint n = true from decide_eq_true hn]; rfl
    refine res0Or_of_reserved (ad := ad) ?_ ?_ <;> rw [List.forall_mem_singleton] <;>
      exact congrArg Host.Outcome.next (if_pos here)
  case pcsr =>
    refine res0Or_of_notPresent (ad := ad) ?_ ?_ <;>
      simp only [List.forall_mem_cons, List.not_mem_nil, false_implies, implies_true, and_true] <;>
      exact ⟨exec_of_absent h rfl, exec_of_absent h rfl, exec_of_absent h rfl⟩
  case vidsr =>
    refine res0Or_of_notPresent (ad := ad) ?_ ?_ <;> rw [List.forall_mem_singleton] <;> exact exec_of_absent h rfl
  case edhsr =>
    refine res0Or_of_notPresent (ad := ad) ?_ ?_ <;>
      simp only [List.forall_mem_cons, List.not_mem_nil, false_implies, implies_true, and_true] <;>
      exact ⟨exec_of_absent h rfl, exec_of_absent h rfl⟩
  case scr2 =>
    refine res0Or_of_notPresent (ad := ad) ?_ ?_ <;> rw [List.forall_mem_singleton] <;> exact exec_of_absent h rfl
  case edacr =>
    refine res0Or_of_reserved (ad := ad) ?_ ?_ <;> rw [List.forall_mem_singleton] <;> exact exec_of_absent h rfl
  case editctrl =>
    refine res0Or_of_reserved (ad := ad) ?_ ?_ <;> rw [List.forall_mem_singleton] <;> exact exec_of_absent h rfl
  case ident =>
    refine res0Or_of_reserved (ad := ad) ?_ ?_ <;>
      simp only [List.forall_mem_cons, List.not_mem_nil, false_implies, implies_true, and_true] <;>
      exact ⟨exec_of_absent h rfl, exec_of_absent h rfl, exec_of_absent h rfl, exec_of_absent h rfl, exec_of_absent h rfl,
        exec_of_absent h rfl, exec_of_absent h rfl, exec_of_absent h rfl, exec_of_absent h rfl, exec_of_absent h rfl,
        exec_of_absent h rfl⟩

end Sys2Proof.Proofs.Sample
end

section
/-!
EDSCR: what it reads and stores, MDSCR_EL1, and the interrupts that INTdis masks (`StatusControlRead`,
`StatusControlWrite`).
-/

namespace Sys2Proof.Proofs.StatusControl

open Sys2Proof.Machine Sys2Proof.Safety
open Sys2Proof.Proofs.EventControl (writesWord_writeStored)
open Sys2Proof.Proofs.ResetAndPower (extractLsb'_congr)

/-! ## INTdis -/

section Intdis

variable {s : State}

/-- INTdis as its two bits. -/
theorem intdis_eq (s : State) :
    s.intdis = BitVec.ofBool (s.ctl.edscr.getLsbD 23) ++ BitVec.ofBool (s.ctl.edscr.getLsbD 22) := by
  apply BitVec.eq_of_getLsbD_eq
  intro k hk
  refine Eq.trans ?_ (BitVec.getLsbD_append (x := BitVec.ofBool (s.ctl.edscr.getLsbD 23))
    (y := BitVec.ofBool (s.ctl.edscr.getLsbD 22)) (i := k)).symm
  rw [State.intdis, BitVec.getLsbD_extractLsb', decide_eq_true hk]
  interval_cases k <;> simp

theorem intdisReserved_iff (s : State) : s.intdisReserved = true ↔ IntdisReserved s := by
  rw [State.intdisReserved, intdis_eq, IntdisReserved]
  cases s.ctl.edscr.getLsbD 23 <;> cases s.ctl.edscr.getLsbD 22 <;> simp [and_assoc]

/-- What INTdis masks, in the three variants of 47 R711. -/
theorem interruptsMasked_eq (ha : s.earlierAuth = []) (hi : ¬IntdisReserved s) (hh : s.hal.halted = false) (ss : SecState)
    (el : BitVec 2) :
    s.interruptsMasked ss el = intdisMasks s.cfg s.auth (s.ctl.edscr.getLsbD 23) (s.ctl.edscr.getLsbD 22) ss el := by
  have defined : s.intdisReserved = false := Bool.eq_false_iff.2 fun h => hi ((intdisReserved_iff s).1 h)
  simp only [State.interruptsMasked, State.effectiveIntdis, defined, intdis_eq, authSeen_of_settled ha, hh]
  delta intdisMasks
  generalize s.ctl.edscr.getLsbD 23 = hi, s.ctl.edscr.getLsbD 22 = lo
  cases s.cfg.sys.rme
  case true => cases hi <;> cases lo <;> cases s.auth.invasive <;> cases ss <;> simp
  case false =>
    cases s.cfg.dbg.debugv8p4 <;> cases hi <;> cases lo <;> cases s.auth.invasive <;> cases ss <;> simp

end Intdis

/-! ## Reading EDSCR -/

section Read

variable {s : State}

theorem edscrStoredRead_getLsbD (c : Config) {k : Nat} (hk : k < 32) :
    (edscrStoredRead c).getLsbD k =
      (edscrField c k || decide (29 ≤ k ∧ k ≤ 30) || decide (25 ≤ k ∧ k ≤ 27) || decide (k ≤ 6)) := by
  simp only [edscrStoredRead, BitVec.getLsbD_or, edscrWritable_getLsbD c k hk, maskAt_getLsbD, hk, true_and, Bool.or_assoc]
  congr 1
  rw [Bool.eq_iff_iff]
  simp only [Bool.or_eq_true, decide_eq_true_eq]
  omega

/-- The part of EDSCR that is read from storage; a reserved INTdis reads an UNKNOWN value. -/
def storedPart (s : State) : Word :=
  if s.intdisReserved then merge (maskAt 22 2) (s.ctl.edscr &&& edscrStoredRead s.cfg) (s.free32 .edscrView)
  else s.ctl.edscr &&& edscrStoredRead s.cfg

/-- The part of EDSCR that reports the PE. -/
def reportedPart (s : State) : Word :=
  let h := s.hal.halted
  let u := s.free32 .edscrView
  bitAt 28 (if h then s.ito else u.getLsbD 28) |||
  bitAt 24 (if h then s.ite else u.getLsbD 24) |||
  bitAt 18 (if h then SecState.nsBit s.pe.ss else u.getLsbD 18) |||
  bitAt 16 s.sddValue |||
  maskIf s.cfg.sys.rme (bitAt 15 (if h then SecState.nseBit s.pe.ss else u.getLsbD 15)) |||
  fieldAt 10 (if h then s.rwValue else 0b1111) |||
  fieldAt 8 (if h then s.pe.el else 0) |||
  bitAt 7 (if h then s.errorPending else u.getLsbD 7)

theorem edscrValue_eq (hp : PlainStorage s) : edscrValue s = storedPart s ||| reportedPart s := by
  have none : edscrStoredRead s.cfg ||| maskIf s.cfg.opt.res0Storage (edscrReserved s.cfg) = edscrStoredRead s.cfg := by
    rw [hp]; exact BitVec.or_zero
  simp only [edscrValue, none, storedPart, reportedPart, BitVec.or_assoc]

theorem storedPart_getLsbD (s : State) {k : Nat} (hk : k < 32) (h : k = 22 ∨ k = 23 → ¬IntdisReserved s) :
    (storedPart s).getLsbD k = (s.ctl.edscr.getLsbD k &&
      (edscrField s.cfg k || decide (29 ≤ k ∧ k ≤ 30) || decide (25 ≤ k ∧ k ≤ 27) || decide (k ≤ 6))) := by
  rw [← edscrStoredRead_getLsbD s.cfg hk, storedPart, ← BitVec.getLsbD_and]
  split
  · rename_i hr
    have out : (maskAt 22 2).getLsbD k = false := by
      rw [maskAt_getLsbD, decide_eq_false_iff_not]
      intro hk'
      exact h (by omega) ((intdisReserved_iff s).1 hr)
    rw [merge_getLsbD, out, if_neg Bool.false_ne_true]
  · rfl

/-- Nothing is reported in the positions that are read from storage. -/
theorem reportedPart_eq_false (s : State) {k : Nat}
    (h : k ≤ 6 ∨ k = 14 ∨ k = 17 ∨ (19 ≤ k ∧ k ≤ 23) ∨ (25 ≤ k ∧ k ≤ 27) ∨ 29 ≤ k) :
    (reportedPart s).getLsbD k = false := by
  have rw' (v : BitVec 4) : (fieldAt 10 v).getLsbD k = false := by
    rw [fieldAt_getLsbD]
    by_cases hk : 10 ≤ k
    · rw [BitVec.getLsbD_of_ge v _ (by omega), Bool.and_false]
    · simp [hk]
  have el (v : BitVec 2) : (fieldAt 8 v).getLsbD k = false := by
    rw [fieldAt_getLsbD]
    by_cases hk : 8 ≤ k
    · rw [BitVec.getLsbD_of_ge v _ (by omega), Bool.and_false]
    · simp [hk]
  simp only [reportedPart, BitVec.getLsbD_or, bitAt_getLsbD, maskIf_getLsbD, rw', el, show k ≠ 28 by omega, show k ≠ 24 by omega,
    show k ≠ 18 by omega, show k ≠ 16 by omega, show k ≠ 15 by omega, show k ≠ 7 by omega, and_false, decide_false,
    Bool.and_false, Bool.or_self]

/-- Nothing is read from storage in the positions that report the PE. -/
theorem storedPart_eq_false (s : State) {k : Nat}
    (h : (7 ≤ k ∧ k ≤ 13) ∨ (15 ≤ k ∧ k ≤ 18) ∨ k = 24 ∨ k = 28) : (storedPart s).getLsbD k = false := by
  have field : edscrField s.cfg k = false := by
    have : k = 7 ∨ k = 8 ∨ k = 9 ∨ k = 10 ∨ k = 11 ∨ k = 12 ∨ k = 13 ∨
        k = 15 ∨ k = 16 ∨ k = 17 ∨ k = 18 ∨ k = 24 ∨ k = 28 := by
      omega
    rcases this with rfl | rfl | rfl | rfl | rfl | rfl | rfl | rfl | rfl | rfl | rfl | rfl | rfl <;> simp [edscrField]
  rw [storedPart_getLsbD s (by omega) (fun hk => by omega), field, decide_eq_false (by omega), decide_eq_false (by omega),
    decide_eq_false (by omega)]
  exact Bool.and_false _

/-- Stored positions read as they are. -/
theorem edscrValue_stored (hp : PlainStorage s) {k : Nat} (hk : k < 32)
    (h : edscrField s.cfg k = true ∨ (29 ≤ k ∧ k ≤ 30) ∨ (25 ≤ k ∧ k ≤ 27) ∨ k ≤ 6)
    (hi : k = 22 ∨ k = 23 → ¬IntdisReserved s) : (edscrValue s).getLsbD k = s.ctl.edscr.getLsbD k := by
  have place : k ≤ 6 ∨ k = 14 ∨ k = 17 ∨ (19 ≤ k ∧ k ≤ 23) ∨ (25 ≤ k ∧ k ≤ 27) ∨ 29 ≤ k := by
    rcases h with h | h
    · by_contra hc
      have : (7 ≤ k ∧ k ≤ 13) ∨ (15 ≤ k ∧ k ≤ 18) ∨ k = 24 ∨ k = 28 := by omega
      have none : edscrField s.cfg k = false := by
        rcases this with h' | h' | rfl | rfl
        · obtain ⟨h1, h2⟩ := h'; interval_cases k <;> simp [edscrField]
        · obtain ⟨h1, h2⟩ := h'; interval_cases k <;> simp [edscrField]
        · simp [edscrField]
        · simp [edscrField]
      rw [h] at none; cases none
    · omega
  have shown : (edscrField s.cfg k || decide (29 ≤ k ∧ k ≤ 30) || decide (25 ≤ k ∧ k ≤ 27) || decide (k ≤ 6)) = true := by
    simpa only [Bool.or_eq_true, decide_eq_true_eq, or_assoc] using h
  rw [edscrValue_eq hp, BitVec.getLsbD_or, reportedPart_eq_false s place, storedPart_getLsbD s hk hi, shown, Bool.or_false,
    Bool.and_true]

/-- The other positions report the PE. -/
theorem edscrValue_reported (hp : PlainStorage s) {k : Nat}
    (h : (7 ≤ k ∧ k ≤ 13) ∨ (15 ≤ k ∧ k ≤ 18) ∨ k = 24 ∨ k = 28) :
    (edscrValue s).getLsbD k = (reportedPart s).getLsbD k := by
  rw [edscrValue_eq hp, BitVec.getLsbD_or, storedPart_eq_false s h, Bool.false_or]

end Read

/-! ## The fields that report the PE -/

section Reported

variable {s : State}

theorem reportedPart_bits (s : State) :
    (reportedPart s).getLsbD 28 = (if s.hal.halted then s.ito else (s.free32 .edscrView).getLsbD 28) ∧
    (reportedPart s).getLsbD 24 = (if s.hal.halted then s.ite else (s.free32 .edscrView).getLsbD 24) ∧
    (reportedPart s).getLsbD 18 =
      (if s.hal.halted then SecState.nsBit s.pe.ss else (s.free32 .edscrView).getLsbD 18) ∧
    (reportedPart s).getLsbD 16 = s.sddValue ∧
    (reportedPart s).getLsbD 15 = (s.cfg.sys.rme &&
      (if s.hal.halted then SecState.nseBit s.pe.ss else (s.free32 .edscrView).getLsbD 15)) ∧
    (reportedPart s).getLsbD 7 = (if s.hal.halted then s.errorPending else (s.free32 .edscrView).getLsbD 7) := by
  simp only [reportedPart, BitVec.getLsbD_or, bitAt_getLsbD, maskIf_getLsbD, fieldAt_getLsbD, BitVec.getLsbD_of_ge,
    Nat.reduceSub, Nat.reduceLT, Nat.reduceLeDiff, Nat.reduceEqDiff, and_false, decide_true, decide_false,
    Bool.false_and, Bool.and_true, Bool.and_false, Bool.or_false, Bool.false_or, and_self]

theorem reportedPart_rw (s : State) {k : Nat} (hk : k < 4) :
    (reportedPart s).getLsbD (10 + k) = (if s.hal.halted then s.rwValue else 0b1111).getLsbD k := by
  have el (v : BitVec 2) : v.getLsbD (10 + k - 8) = false := BitVec.getLsbD_of_ge v _ (by omega)
  simp only [reportedPart, BitVec.getLsbD_or, bitAt_getLsbD, maskIf_getLsbD, fieldAt_getLsbD, el, Nat.add_sub_cancel_left,
    show 10 + k < 32 ∧ 10 ≤ 10 + k by omega, show 10 + k ≠ 28 by omega, show 10 + k ≠ 24 by omega,
    show 10 + k ≠ 18 by omega, show 10 + k ≠ 16 by omega, show 10 + k ≠ 15 by omega, show 10 + k ≠ 7 by omega, and_false,
    and_self, decide_true, decide_false, Bool.and_false, Bool.true_and, Bool.or_false, Bool.false_or]

theorem reportedPart_el (s : State) {k : Nat} (hk : k < 2) :
    (reportedPart s).getLsbD (8 + k) = (if s.hal.halted then s.pe.el else 0).getLsbD k := by
  simp only [reportedPart, BitVec.getLsbD_or, bitAt_getLsbD, maskIf_getLsbD, fieldAt_getLsbD, Nat.add_sub_cancel_left,
    show ¬10 ≤ 8 + k by omega, show 8 + k < 32 ∧ 8 ≤ 8 + k by omega, show 8 + k ≠ 28 by omega, show 8 + k ≠ 24 by omega,
    show 8 + k ≠ 18 by omega, show 8 + k ≠ 16 by omega, show 8 + k ≠ 15 by omega, show 8 + k ≠ 7 by omega, and_false, and_self,
    decide_true, decide_false, Bool.false_and, Bool.and_false, Bool.true_and, Bool.or_false, Bool.false_or]

/-- RW, EL and the bits that report the PE, as EDSCR shows them. -/
theorem edscrValue_rw (hp : PlainStorage s) :
    (edscrValue s).extractLsb' 10 4 = if s.hal.halted then s.rwValue else 0b1111 := by
  refine BitVec.eq_of_getLsbD_eq fun k hk => ?_
  rw [BitVec.getLsbD_extractLsb', decide_eq_true hk, Bool.true_and, edscrValue_reported hp (by omega), reportedPart_rw s hk]

theorem edscrValue_el (hp : PlainStorage s) :
    (edscrValue s).extractLsb' 8 2 = if s.hal.halted then s.pe.el else 0 := by
  refine BitVec.eq_of_getLsbD_eq fun k hk => ?_
  rw [BitVec.getLsbD_extractLsb', decide_eq_true hk, Bool.true_and, edscrValue_reported hp (by omega), reportedPart_el s hk]

theorem nseBit_eq (ss : SecState) : SecState.nseBit ss = decide (ss = .realm ∨ ss = .root) := by cases ss <;> rfl

theorem nsBit_eq (ss : SecState) : SecState.nsBit ss = decide (ss = .nonSecure ∨ ss = .realm) := by cases ss <;> rfl

/-- SDD where neither EL3, Secure state nor FEAT_RME is implemented, and where one of them is. -/
theorem sddValue_of_none (h : s.cfg.pe.haveEL3 = false ∧ s.cfg.pe.secureImpl = false ∧ s.cfg.sys.rme = false) :
    s.sddValue = true := by
  simp only [State.sddValue, h, Bool.not_false, Bool.and_self, if_true]

theorem sddValue_of_some (h : ¬(s.cfg.pe.haveEL3 = false ∧ s.cfg.pe.secureImpl = false ∧ s.cfg.sys.rme = false)) :
    s.sddValue =
      if s.hal.halted then s.hal.sdd
      else if s.cfg.sys.rme then !s.authSeen.rootInvasive
      else !s.authSeen.secureInvasive := by
  refine if_neg fun guard => h ?_
  simp only [Bool.and_eq_true, Bool.not_eq_true'] at guard
  exact ⟨guard.1.2, guard.2, guard.1.1⟩

/-- A in Debug state (47 R737). -/
theorem errorPending_eq (s : State) :
    s.errorPending =
      if s.pe.el2Enabled = true ∧ (s.pe.el = 0 ∨ s.pe.el = 1) ∧ s.pe.hcrTGE = false ∧
          (s.pe.hcrAMO = true ∨ (s.cfg.sys.doubleFault2 = true ∧ s.pe.hcrxTMEA = true)) then s.pe.virtualSError
      else if s.cfg.sys.e3dse = true ∧ s.pe.el ≠ 3 ∧ s.pe.scrEnDSE = true then s.pe.delegatedSError
      else s.pe.physicalSError := by
  simp only [State.errorPending, Bool.and_eq_true, Bool.or_eq_true, Bool.not_eq_true', decide_eq_true_eq, bne_iff_ne, and_assoc]

end Reported

/-! ## RW, row by row (47 R735) -/

section Rw

variable {s : State}

/-- EL2 is on and uses AArch64. -/
abbrev el2UsesAA64 (s : State) : Prop := s.cfg.pe.haveEL2 = true ∧ s.pe.el2Enabled = true ∧ s.pe.el2AA64 = true

theorem el2UsesAA64_iff (s : State) :
    (s.cfg.pe.haveEL2 && s.pe.el2Enabled && s.pe.el2AA64) = true ↔ el2UsesAA64 s := by
  simp [el2UsesAA64, and_assoc]

theorem rwValue_aa64 (h : s.cfg.dbg.aa32 = false ∨ (s.pe.el1AA64 = true ∧ (s.pe.el ≠ 0 ∨ s.pe.el0AA64 = true))) :
    s.rwValue = 0b1111#4 := by
  rcases h with h | ⟨h1, h⟩
  · simp [State.rwValue, h]
  · have el0 : (decide (s.pe.el = 0) && !s.pe.el0AA64) = false := by
      rcases h with h | h
      · rw [decide_eq_false h, Bool.false_and]
      · rw [h, Bool.not_true, Bool.and_false]
    simp only [State.rwValue, h1, el0, Bool.not_true, Bool.false_and, Bool.false_eq_true, if_false, ite_self]
    rfl

theorem rwValue_el0 (ha : s.cfg.dbg.aa32 = true) (h1 : s.pe.el1AA64 = true) (hel : s.pe.el = 0) (h0 : s.pe.el0AA64 = false) :
    s.rwValue = 0b1110#4 := by
  simp [State.rwValue, ha, h1, hel, h0]

theorem rwValue_el1 (ha : s.cfg.dbg.aa32 = true) (h1 : s.pe.el1AA64 = false) (h2 : el2UsesAA64 s) :
    s.rwValue = 0b1100 ||| ((s.free64 .edscrView).extractLsb' 10 4 &&& 0b0001) := by
  simp [State.rwValue, ha, h1, h2.1, h2.2.1, h2.2.2]

theorem rwValue_el2 (ha : s.cfg.dbg.aa32 = true) (h1 : s.pe.el1AA64 = false) (h2 : ¬el2UsesAA64 s)
    (h3 : s.cfg.pe.haveEL3 = true) (h3' : s.pe.el3AA64 = true) :
    s.rwValue = 0b1000 ||| ((s.free64 .edscrView).extractLsb' 10 4 &&& 0b0011) := by
  have off : (s.cfg.pe.haveEL2 && s.pe.el2Enabled && s.pe.el2AA64) = false :=
    Bool.eq_false_iff.2 fun h => h2 ((el2UsesAA64_iff s).1 h)
  simp [State.rwValue, ha, h1, off, h3, h3']

theorem rwValue_aa32 (ha : s.cfg.dbg.aa32 = true) (h1 : s.pe.el1AA64 = false) (h2 : ¬el2UsesAA64 s)
    (h3 : s.cfg.pe.haveEL3 = false ∨ s.pe.el3AA64 = false) :
    s.rwValue = (s.free64 .edscrView).extractLsb' 10 4 &&& 0b0111 := by
  have off : (s.cfg.pe.haveEL2 && s.pe.el2Enabled && s.pe.el2AA64) = false :=
    Bool.eq_false_iff.2 fun h => h2 ((el2UsesAA64_iff s).1 h)
  rcases h3 with h3 | h3 <;> simp [State.rwValue, ha, h1, off, h3]

/-- The bits of RW that the rows with x name. -/
theorem rw_named (x : BitVec 4) :
    (0b1100 ||| (x &&& 0b0001)).extractLsb' 1 3 = 0b110#3 ∧ (0b1000 ||| (x &&& 0b0011)).extractLsb' 2 2 = 0b10#2 ∧
      (x &&& 0b0111).getLsbD 3 = false := by
  revert x; decide

end Rw

/-- Settles O50: the stored part and the reported part, field by field. -/
theorem statusControlRead : Obligations.StatusControlRead := by
  intro s ad hp c p noSDD el2On
  obtain ⟨b28, b24, b18, b16, b15, b7⟩ := reportedPart_bits s
  have reported {k : Nat} (h : (7 ≤ k ∧ k ≤ 13) ∨ (15 ≤ k ∧ k ≤ 18) ∨ k = 24 ∨ k = 28) := edscrValue_reported hp h
  have r28 := (reported (k := 28) (by omega)).trans b28
  have r24 := (reported (k := 24) (by omega)).trans b24
  have r18 := (reported (k := 18) (by omega)).trans b18
  have r16 := (reported (k := 16) (by omega)).trans b16
  have r15 := (reported (k := 15) (by omega)).trans b15
  have r7 := (reported (k := 7) (by omega)).trans b7
  have rw' := edscrValue_rw hp
  have el := edscrValue_el hp
  have inRw {lo len : Nat} (h : lo + len ≤ 4) :
      (edscrValue s).extractLsb' (10 + lo) len = ((edscrValue s).extractLsb' 10 4).extractLsb' lo len := by
    refine BitVec.eq_of_getLsbD_eq fun k hk => ?_
    rw [BitVec.getLsbD_extractLsb', BitVec.getLsbD_extractLsb', BitVec.getLsbD_extractLsb',
      decide_eq_true (show lo + k < 4 by omega), Bool.true_and, Nat.add_assoc]
  have bit13 : (edscrValue s).getLsbD 13 = ((edscrValue s).extractLsb' 10 4).getLsbD 3 := by
    rw [BitVec.getLsbD_extractLsb']; rfl
  refine ⟨edscrValue s, lockedRead_of (k := .readWrite) rfl (.inr (.inl rfl)) rfl,
    fun k hk hf hi => edscrValue_stored hp hk (.inl hf) hi, ?full, ?overrun, edscrValue_stored hp (by decide) (by omega) (by omega),
    ?status, fun h => ?res0High, ?res0, fun h => ?nse0, fun h => r16.trans (sddValue_of_none h), fun hh => ?halted, fun hh => ?running⟩
  case full => exact extractLsb'_congr fun k _ _ => edscrValue_stored hp (by omega) (by omega) (by omega)
  case overrun => exact extractLsb'_congr fun k _ _ => edscrValue_stored hp (by omega) (by omega) (by omega)
  case status => exact extractLsb'_congr fun k _ _ => edscrValue_stored hp (by omega) (by omega) (by omega)
  case res0High =>
    have variant : ¬IntdisReserved s := by
      rintro ⟨hr, h4, -⟩
      rcases h with h | h
      · exact absurd (hr.symm.trans h) (by decide)
      · exact absurd (h4.symm.trans h) (by decide)
    have field : edscrField s.cfg 23 = false := by
      have : (s.cfg.sys.rme || s.cfg.dbg.debugv8p4) = true := by rw [Bool.or_eq_true]; exact h
      simp [edscrField, this]
    rw [edscrValue_eq hp, BitVec.getLsbD_or, reportedPart_eq_false s (by omega), storedPart_getLsbD s (by decide) fun _ => variant,
      field]
    simp
  case res0 => exact (reported (by omega)).trans (reportedPart_eq_false s (by omega))
  case nse0 => exact r15.trans (by rw [show s.cfg.sys.rme = false from h, Bool.false_and])
  case halted =>
    rw [hh] at r28 r24 r18 r15 r7 rw' el
    refine ⟨r28, r24, r18.trans (nsBit_eq _), fun hr => r15.trans ?_, el, fun h => r16.trans ?_, fun h => rw'.trans (rwValue_aa64 h),
      fun ha h1 hel h0 => rw'.trans (rwValue_el0 ha h1 hel h0), fun ha h1 h2 => ?_, fun ha h1 h2 h3 h3' => ?_,
      fun ha h1 h2 h3 => ?_, r7.trans (errorPending_eq s)⟩
    · rw [show s.cfg.sys.rme = true from hr, Bool.true_and]; exact nseBit_eq _
    · rw [sddValue_of_some h, hh]; rfl
    · rw [inRw (lo := 1) (by decide), rw', if_pos rfl, rwValue_el1 ha h1 h2]; exact (rw_named _).1
    · rw [inRw (lo := 2) (by decide), rw', if_pos rfl, rwValue_el2 ha h1 h2 h3 h3']; exact (rw_named _).2.1
    · rw [bit13, rw', if_pos rfl, rwValue_aa32 ha h1 h2 h3]; exact (rw_named _).2.2
  case running =>
    rw [hh] at rw' el
    refine ⟨rw', el, fun h => ⟨s.authSeen, authSeen_mem s, ?_⟩⟩
    rw [r16, sddValue_of_some h, hh]; rfl

/-! ## Writing EDSCR and MDSCR_EL1 -/

section Write

variable {s : State}

/-- The fields that PE software writes through MDSCR_EL1 (47 R703). -/
theorem edscrMdscr_getLsbD (c : Config) {k : Nat} (hk : k < 32) :
    (edscrMdscr c).getLsbD k = ((edscrField c k && decide (k ≠ 20)) || [6, 26, 27, 29, 30].contains k) := by
  simp only [edscrMdscr, BitVec.getLsbD_or, BitVec.getLsbD_and, BitVec.getLsbD_not, edscrWritable_getLsbD c k hk, maskAt_getLsbD,
    hk, true_and, decide_true, Bool.true_and, Bool.or_assoc]
  congr 1
  · congr 1
    rw [← decide_not]
    exact decide_eq_decide.2 (by omega)
  · rw [Bool.eq_iff_iff]
    simp
    omega

/-- The state after a write of MDSCR_EL1, or in AArch32 state of DBGDSCRext, but for what the PE sees late. -/
def mdscrWritten (s : State) (d : Word) (ehbwe tta : Bool) : State :=
  { s with
    ctl :=
      { s.ctl with
        edscr := merge (edscrMdscr s.cfg) s.ctl.edscr d
        edscr2 := merge (maskIf s.usingAA64 (edscr2Fields s.cfg)) s.ctl.edscr2 (bitAt 3 ehbwe ||| bitAt 1 tta) } }

theorem stepWriteMdscr_of_locked (he : Executes s) (hl : s.seen.lock.oslk = true) (d : Word) (ehbwe tta : Bool) :
    s.stepWriteMdscr d ehbwe tta =
      (mdscrWritten s d ehbwe tta).settle fun r =>
        bitsOf .edscr ((edscrMdscr s.cfg).setWidth 64) r |||
          bitsOf .edscr2 ((maskIf s.usingAA64 (edscr2Fields s.cfg)).setWidth 64) r := by
  refine if_pos ?_
  rw [(executing_iff s).2 he, State.osLock, hl]; rfl

theorem edscr2Field_place {c : Config} {k : Nat} (h : edscr2Field c k = true) : k = 3 ∨ k = 1 := by
  simp only [edscr2Field, Bool.or_eq_true, Bool.and_eq_true, decide_eq_true_eq] at h
  omega

/-- What is stored in EDSCR2. -/
theorem mdscrWritten_edscr2 (s : State) (d : Word) (ehbwe tta : Bool) {k : Nat} (hk : k < 32) :
    (mdscrWritten s d ehbwe tta).ctl.edscr2.getLsbD k =
      if s.usingAA64 && edscr2Field s.cfg k then (if k = 3 then ehbwe else tta) else s.ctl.edscr2.getLsbD k := by
  show (merge (maskIf s.usingAA64 (edscr2Fields s.cfg)) s.ctl.edscr2 (bitAt 3 ehbwe ||| bitAt 1 tta)).getLsbD k = _
  rw [merge_getLsbD, maskIf_getLsbD, edscr2Fields_getLsbD _ _ hk]
  split
  · rename_i h
    rcases edscr2Field_place (Bool.and_eq_true _ _ ▸ h).2 with rfl | rfl
    · simp [-BitVec.getLsbD_eq_getElem, bitAt_getLsbD]
    · simp [-BitVec.getLsbD_eq_getElem, bitAt_getLsbD]
  · rfl

theorem setWidth_getLsbD_word (w : Word) {k : Nat} (hk : k < 64) :
    (w.setWidth 64 : Dword).getLsbD k = (decide (k < 32) && w.getLsbD k) := by
  rw [BitVec.getLsbD_setWidth, decide_eq_true hk, Bool.true_and]
  by_cases h : k < 32
  · rw [decide_eq_true h, Bool.true_and]
  · rw [BitVec.getLsbD_of_ge w k (by omega), Bool.and_false]

/-- Taking an interrupt: not while it is masked, or in Debug state. -/
theorem stepTakeInterrupt_of_stopped {p : PeView} (h : s.hal.halted = true ∨ s.seen.interruptsMasked p.ss p.el = true) :
    s.stepTakeInterrupt p = s := by
  refine if_neg fun guard => ?_
  simp only [Bool.and_eq_true, Bool.not_eq_true'] at guard
  obtain ⟨⟨⟨-, running⟩, -⟩, unmasked⟩ := guard
  rcases h with h | h
  · rw [h] at running; cases running
  · rw [h] at unmasked; cases unmasked

theorem stepTakeInterrupt_of_unmasked {p : PeView} (he : Executes s) (hh : s.hal.halted = false) (hl : LegalView s.cfg p)
    (hm : s.seen.interruptsMasked p.ss p.el = false) : s.stepTakeInterrupt p = s.withPe p :=
  if_pos (by rw [(executing_iff s).2 he, hh, (isLegal_iff s.cfg p).2 hl, hm]; rfl)

end Write

/-- Settles O51: the write of the debugger, that of PE software, PipeAdv and INTdis. -/
theorem statusControlWrite : Obligations.StatusControlWrite := by
  intro s d ad ehbwe tta p seen written masked
  have mask (ha : s.earlierAuth = []) (hi : ¬IntdisReserved s.seen) (hh : s.hal.halted = false) :
      s.seen.interruptsMasked p.ss p.el = masked s.auth := by
    have := interruptsMasked_eq (s := s.seen) (by rw [s.seen_earlierAuth, ha]) hi (by rw [s.seen_hal, hh]) p.ss p.el
    rwa [s.seen_cfg, s.seen_auth] at this
  refine ⟨fun hp => ⟨(writeEdscrFields d s).ctl.edscr, lockedWrite_of (k := .readWrite) rfl (.inl rfl) rfl, ?write⟩,
    fun he hl => ⟨(mdscrWritten s d ehbwe tta).ctl.edscr, (mdscrWritten s d ehbwe tta).ctl.edscr2,
      (edscrMdscr s.cfg).setWidth 64, (maskIf s.usingAA64 (edscr2Fields s.cfg)).setWidth 64, ?settles, ?mdscr,
      fun k hk => mdscrWritten_edscr2 s d ehbwe tta hk, fun k hk => ?masks⟩,
    fun hl => ?unlocked, fun he hh => ?advance, fun hh => ⟨?halted, stepTakeInterrupt_of_stopped (.inl hh)⟩,
    fun ha hi hm => ?masked, fun he hh hl ha hi hm => stepTakeInterrupt_of_unmasked he hh hl ((mask ha hi hh).trans hm)⟩
  case write =>
    show WritesWord _ d _ (writeStored s.cfg.opt.res0Storage (edscrWritable s.cfg) (edscrReserved s.cfg) s.ctl.edscr d)
    rw [hp]
    exact writesWord_writeStored (edscrWritable_getLsbD s.cfg)
  case settles =>
    rw [show agentStep (.writeMdscr d ehbwe tta) s = _ from stepWriteMdscr_of_locked he hl d ehbwe tta]
    exact ⟨settles_settle (mdscrWritten s d ehbwe tta) _, rfl⟩
  case mdscr =>
    intro k hk
    show (merge (edscrMdscr s.cfg) s.ctl.edscr d).getLsbD k = _
    rw [merge_getLsbD, edscrMdscr_getLsbD _ hk]
  case masks =>
    rw [setWidth_getLsbD_word _ hk, setWidth_getLsbD_word _ hk, maskIf_getLsbD]
    by_cases h : k < 32
    · rw [edscrMdscr_getLsbD _ h, edscr2Fields_getLsbD _ _ h, Bool.and_assoc]
      exact ⟨rfl, rfl⟩
    · simp only [h, decide_false, Bool.false_and, and_self]
  case unlocked =>
    exact if_neg (by rw [State.osLock, hl, Bool.and_false]; exact Bool.false_ne_true)
  case advance => exact if_pos (by rw [(executing_iff s).2 he, hh]; rfl)
  case halted => exact if_neg (by rw [hh, Bool.not_true, Bool.and_false]; exact Bool.false_ne_true)
  case masked =>
    cases hh : s.hal.halted
    · exact stepTakeInterrupt_of_stopped (.inr ((mask ha hi hh).trans hm))
    · exact stepTakeInterrupt_of_stopped (.inl hh)

end Sys2Proof.Proofs.StatusControl
end

section
/-!
EDPRSR (`PowerStatusRead`), and six words of the offset table (`DecodesTableWords`).
-/

namespace Sys2Proof.Proofs.PowerStatus

open Sys2Proof.Machine Sys2Proof.Safety

/-- Settles O1: the decoder, evaluated. -/
theorem decodesTableWords : Obligations.DecodesTableWords := by
  unfold Obligations.DecodesTableWords
  decide

/-! ## EDPRSR, bit by bit -/

section Value

variable {s : State} {ad : AddrDesc}

/-- The UNKNOWN value of a bit of EDPRSR. -/
def unknownBit (s : State) (k : Nat) : Bool := (s.free32 .prsr).getLsbD k

/-- FEAT_TRBE and the external trace registers are implemented: STAD, ETAD and ETADE are fields. -/
def hasTrace (c : Config) : Bool := c.sys.trcExt && c.sys.trbe

theorem ite_getLsbD {n : Nat} (b : Bool) (v w : BitVec n) (k : Nat) :
    (if b then v else w).getLsbD k = if b then v.getLsbD k else w.getLsbD k := by cases b <;> rfl

/-- Bits [16:9] of EDPRSR. -/
theorem edprsrValue_upper (ad : AddrDesc) (s : State) :
    (edprsrValue ad s).getLsbD 16 = ((s.cfg.sys.rme && s.cfg.sys.pmuv3Ext) &&
      if s.coreOffReachable || s.power.inReset then unknownBit s 16 else s.env.mdcr3.epmade) ∧
    (edprsrValue ad s).getLsbD 15 = ((s.cfg.sys.rme && hasTrace s.cfg) &&
      if s.coreOffReachable || s.power.inReset then unknownBit s 15 else s.env.mdcr3.etade) ∧
    (edprsrValue ad s).getLsbD 14 = (s.cfg.sys.rme &&
      if s.coreOffReachable || s.power.inReset then unknownBit s 14 else s.env.mdcr3.edade) ∧
    (edprsrValue ad s).getLsbD 13 = (hasTrace s.cfg && if s.coreOffReachable then unknownBit s 13 else s.sticky.stad) ∧
    (edprsrValue ad s).getLsbD 12 = (hasTrace s.cfg &&
      if s.coreOffReachable || s.power.inReset then unknownBit s 12
      else s.accessDisable s.env.mdcr3.etad s.allowTraceFor .nonSecure) ∧
    (edprsrValue ad s).getLsbD 11 = (if s.coreOffReachable || s.doubleLock then unknownBit s 11 else s.sticky.sdr) ∧
    (edprsrValue ad s).getLsbD 10 = (s.cfg.sys.pmuv3Ext &&
      if s.coreOffReachable || s.doubleLock || (s.osLock && !s.cfg.dbg.debugv8p4) then unknownBit s 10 else s.sticky.spmad) ∧
    (edprsrValue ad s).getLsbD 9 =
      (if s.cfg.sys.pmuv3Ext then
        (if s.coreOffReachable || s.power.inReset || (!s.cfg.sys.rme && (s.doubleLock || (!s.cfg.dbg.debugv8p4 && s.osLock)))
          then unknownBit s 9 else s.accessDisable s.env.mdcr3.epmad s.allowPMUFor (s.reportedState ad))
      else s.cfg.sys.pmuv3 && unknownBit s 9) := by
  simp only [edprsrValue, hasTrace, unknownBit, BitVec.getLsbD_or, maskIf_getLsbD, bitAt_getLsbD, ite_getLsbD, Nat.reduceLT,
    Nat.reduceEqDiff, and_false, and_self, decide_true, decide_false, Bool.and_true, Bool.and_false, Bool.or_false,
    Bool.false_or, ite_self]

/-- Bits [8:0] of EDPRSR. -/
theorem edprsrValue_lower (ad : AddrDesc) (s : State) :
    (edprsrValue ad s).getLsbD 8 =
      (if s.coreOffReachable || s.power.inReset || s.doubleLock || (!s.cfg.dbg.debugv8p4 && s.oslX) then unknownBit s 8
      else s.sticky.sdad) ∧
    (edprsrValue ad s).getLsbD 7 =
      (if s.coreOffReachable || s.power.inReset || (!s.cfg.sys.rme && (s.doubleLock || (!s.cfg.dbg.debugv8p4 && s.oslX)))
      then unknownBit s 7 else s.accessDisable s.env.mdcr3.edad s.allowDebugFor (s.reportedState ad)) ∧
    (edprsrValue ad s).getLsbD 6 = dlkValue (unknownBit s 6) s ∧
    (edprsrValue ad s).getLsbD 5 =
      (if s.coreOffReachable || s.power.inReset || s.doubleLock then unknownBit s 5 else s.lock.oslk) ∧
    (edprsrValue ad s).getLsbD 4 = (if s.coreOffReachable then unknownBit s 4 else s.hal.halted) ∧
    (edprsrValue ad s).getLsbD 3 = (if s.coreOffReachable || s.doubleLock then unknownBit s 3 else s.sticky.sr) ∧
    (edprsrValue ad s).getLsbD 2 =
      (if s.coreOffReachable || s.doubleLock || s.lockedReset then unknownBit s 2 else s.power.inReset) ∧
    (edprsrValue ad s).getLsbD 1 = spdValue (unknownBit s 1) s ∧
    (edprsrValue ad s).getLsbD 0 = puValue (unknownBit s 0) s := by
  simp only [edprsrValue, unknownBit, BitVec.getLsbD_or, maskIf_getLsbD, bitAt_getLsbD, ite_getLsbD, Nat.reduceLT,
    Nat.reduceEqDiff, and_false, and_self, decide_true, decide_false, Bool.and_true, Bool.and_false, Bool.or_false,
    Bool.false_or, ite_self]

theorem edprsrValue_high (ad : AddrDesc) (s : State) {k : Nat} (hk : 17 ≤ k) : (edprsrValue ad s).getLsbD k = false := by
  have ne : ∀ j, j ≤ 16 → k ≠ j := fun j hj => by omega
  simp only [edprsrValue, BitVec.getLsbD_or, maskIf_getLsbD, bitAt_getLsbD, ite_getLsbD, ne 16 (by decide), ne 15 (by decide),
    ne 14 (by decide), ne 13 (by decide), ne 12 (by decide), ne 11 (by decide), ne 10 (by decide), ne 9 (by decide),
    ne 8 (by decide), ne 7 (by decide), ne 6 (by decide), ne 5 (by decide), ne 4 (by decide), ne 3 (by decide), ne 2 (by decide),
    ne 1 (by decide), ne 0 (by decide), and_false, decide_false, Bool.and_false, Bool.or_false, ite_self]

end Value

/-! ## With the Core powered, no OS Double Lock and no reset in the way -/

section Running

variable {s : State} {ad : AddrDesc}

theorem powered_of_core (h : s.power.core = .powered) : s.powered = true := by rw [State.powered, h]

theorem coreOffReachable_of_powered (h : s.powered = true) : s.coreOffReachable = false := by
  rw [State.coreOffReachable, h, Bool.not_true, Bool.and_false]

theorem lockedReset_of_running (h : s.power.inReset = false) : s.lockedReset = false := by
  rw [State.lockedReset, h, Bool.and_false, Bool.false_and]

theorem spdValue_of_running (hc : s.power.core = .powered) (hd : s.doubleLock = false) (hr : s.power.inReset = false) (u : Bool) :
    spdValue u s = s.sticky.spd := by
  simp [spdValue, coreOffReachable_of_powered (powered_of_core hc), lockedReset_of_running hr, hd, hc]

theorem puValue_of_running (hc : s.power.core = .powered) (hd : s.doubleLock = false) (hr : s.power.inReset = false) (u : Bool) :
    puValue u s = true := by
  simp [puValue, lockedReset_of_running hr, powered_of_core hc, hd]

theorem dlkValue_of_running (hc : s.power.core = .powered) (hd : s.doubleLock = false) (hr : s.power.inReset = false) (u : Bool) :
    dlkValue u s = false := by
  simp [dlkValue, lockedReset_of_running hr, powered_of_core hc, hd]

/-- What the OS Lock hides without FEAT_Debugv8p4 (46 R662). -/
theorem hiddenByOsl_iff (s : State) :
    (!s.cfg.dbg.debugv8p4 && s.osLock) = true ↔ s.lock.oslk = true ∧ s.cfg.dbg.debugv8p4 = false := by
  simp [State.osLock, and_comm]

theorem hiddenByOslX_iff (s : State) :
    (!s.cfg.dbg.debugv8p4 && s.oslX) = true ↔
      (s.lock.oslk = true ∧ s.cfg.dbg.debugv8p4 = false) ∧ s.cfg.dbg.debugv8p2 = false ∧
        s.cfg.opt.oslarErrorWhenDisallowed = false := by
  simp [State.osLock, State.oslX]
  tauto

/-- A field that is hidden only without FEAT_RME. -/
theorem shown_unless_hidden {rme hidden u v : Bool} {H : Prop} (hH : hidden = true ↔ H) (h : rme = true ∨ ¬H) :
    (if !rme && hidden then u else v) = v := by
  refine if_neg fun guard => ?_
  simp only [Bool.and_eq_true, Bool.not_eq_true'] at guard
  rcases h with h | h
  · rw [h] at guard; cases guard.1
  · exact h (hH.1 guard.2)

end Running

/-! ## The sticky bits after a read -/

section Sticky

variable {s : State} {ad : AddrDesc}

theorem afterRead_of_unlocked (hd : s.doubleLock = false) (k : Nat) (b : Bool) : s.afterRead k b = false := by
  rw [State.afterRead, hd, Bool.and_false, Bool.false_and]

/-- A read that nothing stands in the way of clears the sticky bits, but SR in reset state. -/
theorem clearSticky_of_powered (hp : s.powered = true) (hl : s.softLock ad = false) (hd : s.doubleLock = false) :
    s.clearSticky ad =
      { stad := false, sdr := false, spmad := false, sdad := false
        sr := if s.power.inReset then s.sticky.sr else false
        spd := false } := by
  simp only [State.clearSticky, hp, hl, Bool.not_false, Bool.and_self, if_true, afterRead_of_unlocked hd]

theorem clearSticky_of_stopped (h : s.powered = false ∨ s.softLock ad = true) : s.clearSticky ad = s.sticky := by
  rcases h with h | h <;> simp [State.clearSticky, h]

theorem execRdEdprsr_of_reachable (h : Reachable s) :
    exec (.rdEdprsr ad) s =
      .next { s with sticky := s.clearSticky ad, response := .okRead (edprsrValue ad s) } :=
  congrArg Host.Outcome.next (readReg_readOnly _ ((coreOff_holds_iff s ad).2 h))

/-- A read that clears nothing. -/
theorem execRdEdprsr_of_stopped (hr : Reachable s) (h : s.powered = false ∨ s.softLock ad = true) :
    exec (.rdEdprsr ad) s = reads s (edprsrValue ad s) := by
  rw [execRdEdprsr_of_reachable hr, clearSticky_of_stopped h]

theorem reachable_of_powered (h : s.powered = true) : Reachable s := fun ⟨_, hp⟩ => by rw [h] at hp; cases hp

end Sticky

/-! ## Refused accesses to the trace and PMU registers -/

section Refused

variable {s : State} {ad : AddrDesc}

theorem extTraceAccessFailed_of_refused (hp : s.powered = true) (ht : hasTrace s.cfg = true) (hn : ad.ss = .nonSecure)
    (ha : s.allowTraceFor ad.ss = false) :
    s.extTraceAccessFailed ad = { s with sticky := { s.sticky with stad := true } } := by
  obtain ⟨hx, hb⟩ := Bool.and_eq_true_iff.1 ht
  refine if_pos ?_
  rw [hp, hx, hb, ha, decide_eq_true hn]; rfl

theorem extTraceAccessFailed_of_other (h : hasTrace s.cfg = false ∨ ad.ss ≠ .nonSecure ∨ s.allowTraceFor ad.ss = true) :
    s.extTraceAccessFailed ad = s := by
  refine if_neg fun guard => ?_
  simp only [Bool.and_eq_true, Bool.not_eq_true', decide_eq_true_eq] at guard
  obtain ⟨⟨⟨⟨-, hx⟩, hb⟩, hn⟩, ha⟩ := guard
  rcases h with h | h | h
  · rw [hasTrace, hx, hb] at h; cases h
  · exact h hn
  · rw [h] at ha; cases ha

theorem extPmuAccessFailed_of_refused (hp : s.powered = true) (hx : s.cfg.sys.pmuv3Ext = true)
    (ha : s.allowPMUFor ad.ss = false) :
    s.extPmuAccessFailed ad = { s with sticky := { s.sticky with spmad := true } } :=
  if_pos (by rw [hp, hx, ha]; rfl)

theorem extPmuAccessFailed_of_other (h : s.cfg.sys.pmuv3Ext = false ∨ s.allowPMUFor ad.ss = true) :
    s.extPmuAccessFailed ad = s := by
  refine if_neg fun guard => ?_
  simp only [Bool.and_eq_true, Bool.not_eq_true'] at guard
  obtain ⟨⟨-, hx⟩, ha⟩ := guard
  rcases h with h | h
  · rw [h] at hx; cases hx
  · rw [h] at ha; cases ha

end Refused

/-- Settles O46: the value bit by bit, the sticky bits after the read, and what sets STAD and SPMAD. -/
theorem powerStatusRead : Obligations.PowerStatusRead := by
  intro s ad c m trace hiddenByOsl hiddenByOslX disabled reported shown cleared
  obtain ⟨b16, b15, b14, b13, b12, b11, b10, b9⟩ := edprsrValue_upper ad s
  obtain ⟨b8, b7, b6, b5, b4, b3, b2, b1, b0⟩ := edprsrValue_lower ad s
  have value (hc : s.power.core = .powered) (hd : s.doubleLock = false) (hr : s.power.inReset = false) :
      shown (edprsrValue ad s) := by
    have off := coreOffReachable_of_powered (powered_of_core hc)
    simp only [off, hr, hd, lockedReset_of_running hr, Bool.or_self, Bool.false_or,
      Bool.false_eq_true, if_false] at b16 b15 b14 b13 b12 b11 b10 b9 b8 b7 b5 b4 b3 b2
    refine ⟨b0.trans (puValue_of_running hc hd hr _), b1.trans (spdValue_of_running hc hd hr _), b2, b3, b4, b5,
      b6.trans (dlkValue_of_running hc hd hr _), fun h => b7.trans (shown_unless_hidden (hiddenByOslX_iff s) h),
      fun h => b8.trans (if_neg fun hx => h ((hiddenByOslX_iff s).1 hx)), fun hx h => b9.trans ?pmu, fun hx hv => b9.trans ?noPmu,
      fun h => b10.trans ?spmad, b11, b12, b13, b14, b15, b16,
      fun k hk _ => edprsrValue_high ad s hk⟩
    case pmu =>
      rw [if_pos hx]
      exact shown_unless_hidden (hiddenByOsl_iff s) h
    case noPmu =>
      rw [if_neg (Bool.eq_false_iff.1 hx), show s.cfg.sys.pmuv3 = false from hv, Bool.false_and]
    case spmad =>
      rcases h with h | h
      · rw [show s.cfg.sys.pmuv3Ext = false from h, Bool.false_and, Bool.false_and]
      · rw [if_neg fun hx => h ((hiddenByOsl_iff s).1 (Bool.and_comm _ _ ▸ hx))]
  refine ⟨fun hc hd hr hl => ⟨edprsrValue ad s, ?read, value hc hd hr⟩,
    fun hc hd hr hl => ⟨edprsrValue ad s,
      execRdEdprsr_of_stopped (reachable_of_powered (powered_of_core hc)) (.inr hl), value hc hd hr⟩,
    fun hc hf hr hl => ⟨edprsrValue ad s, ?reset, ?resetShown⟩,
    fun hreach hp => ⟨edprsrValue ad s, execRdEdprsr_of_stopped hreach (.inl hp), ?spd⟩, fun hn => ?errors,
    extTraceAccessFailed_of_refused, extTraceAccessFailed_of_other, extPmuAccessFailed_of_refused,
    extPmuAccessFailed_of_other⟩
  case read =>
    rw [execRdEdprsr_of_reachable (reachable_of_powered (powered_of_core hc)), clearSticky_of_powered (powered_of_core hc) hl hd, hr]
    rfl
  case reset =>
    have hd : s.doubleLock = false := by rw [State.doubleLock, hf, Bool.false_and]
    rw [execRdEdprsr_of_reachable (reachable_of_powered (powered_of_core hc)), clearSticky_of_powered (powered_of_core hc) hl hd, hr]
    rfl
  case resetShown =>
    have hd : s.doubleLock = false := by rw [State.doubleLock, hf, Bool.false_and]
    have hl : s.lockedReset = false := by rw [State.lockedReset, hf, Bool.false_and, Bool.false_and]
    rw [b2, coreOffReachable_of_powered (powered_of_core hc), hd, hl, hr]; rfl
  case spd =>
    have doPD : s.cfg.dbg.doPD = false := Bool.eq_false_iff.2 fun h => hreach ⟨h, hp⟩
    rw [b1, spdValue, State.coreOffReachable, doPD, hp]; rfl
  case errors =>
    show Host.Outcome.next (readReg .coreOff .readOnly ad s _) = _
    rw [readReg_error _ _ (not_coreOff hn), raiseError_plain _ _ _ rfl]

end Sys2Proof.Proofs.PowerStatus
end
